-- ==== Sys2Proof/Word.lean ====
section
/-! DEFINITION. The word type of the JLW-32: the byte of its frames (chapter 11). Every other number of the
spec is a count, a code or an index and stands as a `Nat` or an inductive type. -/

namespace Sys2Proof

/-- A byte of a frame on any port (R175). -/
abbrev Byte := BitVec 8

end Sys2Proof
end

