-- ==== Sys2Proof/Syntax.lean ====
section
/-! DEFINITION. The commands of the JLW-32: one constructor per row of spec/opcode_table.json. A command is a frame
that arrives on a port, a port that comes free, a timer or engine that reaches its next event, or the RESET input.
A backbone row that names a request carries the header fields of its frame and the bytes of its payload. -/

namespace Sys2Proof

/-- The two backbone ports, U and D (00_scope.md). -/
inductive BackbonePort where
  | u
  | d
deriving DecidableEq, Repr

/-- The header of a backbone frame and the port it arrives on (R175); its kind is the command's own, and its payload
length is that of its payload. -/
structure Header where
  /-- The backbone port the frame arrives on. -/
  port : BackbonePort
  destStation : BitVec 5
  destDevice : BitVec 7
  srcStation : BitVec 5
  srcDevice : BitVec 7
  hop : BitVec 4
  tag : Byte
deriving DecidableEq, Repr

/-- What a port has received when a frame ends (R147, chapter 11): its bytes, and whether a byte of it lacked its
stop bit. -/
structure Received where
  bytes : List Byte
  stopBitMissing : Bool
deriving DecidableEq, Repr

/-- The commands. -/
inductive Instr where
  /-- FIELD_FRAME (R4). -/
  | fieldFrame (r : Received)
  /-- BACKBONE_FRAME (R148). -/
  | backboneFrame (p : BackbonePort) (r : Received)
  /-- ASSIGN (R163); `args` are the bytes after the request code. -/
  | assign (h : Header) (args : List Byte)
  /-- LOAD_TABLE (R166); `entries` are the bytes after the starting index. -/
  | loadTable (h : Header) (table start : Byte) (entries : List Byte)
  /-- READ_TABLE (R169). -/
  | readTable (h : Header) (table start count : Byte)
  /-- READ_STATE (R170). -/
  | readState (h : Header) (object index : Byte)
  /-- READ_COUNTERS (R160). -/
  | readCounters (h : Header)
  /-- SET_MODE (R171, R172). -/
  | setMode (h : Header) (mode : Byte)
  /-- RESTART (R173). -/
  | restart (h : Header)
  /-- ARM (R86). -/
  | arm (h : Header) (zone : Byte)
  /-- DISARM (R93). -/
  | disarm (h : Header) (zone : Byte)
  /-- ACK_INTRUSION (R93). -/
  | ackIntrusion (h : Header) (zone : Byte)
  /-- ACK_DOOR (R71). -/
  | ackDoor (h : Header) (door : Byte)
  /-- PERMIT (R74). -/
  | permit (h : Header) (door : Byte)
  /-- OPEN_DOOR (R75). -/
  | openDoor (h : Header) (door : Byte)
  /-- RESET_OCCUPANCY (R82). -/
  | resetOccupancy (h : Header) (zone : Byte)
  /-- RESET_ZONE (R50). -/
  | resetZone (h : Header) (zone : Byte)
  /-- START_TEST (R51). -/
  | startTest (h : Header) (zone : Byte)
  /-- END_TEST (R52). -/
  | endTest (h : Header) (zone : Byte)
  /-- EVACUATE (R53). -/
  | evacuate (h : Header)
  /-- STAND_DOWN (R54). -/
  | standDown (h : Header)
  /-- TAKE_CALL (R109). -/
  | takeCall (h : Header) (call : Byte)
  /-- CLEAR_CALL (R110). -/
  | clearCall (h : Header) (call : Byte)
  /-- SET_ATTENTION (R105). -/
  | setAttention (h : Header) (level : Byte)
  /-- CLEAR_HALT (R143). -/
  | clearHalt (h : Header)
  /-- SET_BAD_REQUEST (R177): a SET with a payload no request's layout allows. -/
  | setBadRequest (h : Header) (payload : List Byte)
  /-- RELAYED_ORDER (R144): an ORDER frame on a backbone port. -/
  | relayedOrder (h : Header) (payload : List Byte)
  /-- BEAT (R157). -/
  | beat (h : Header) (payload : List Byte)
  /-- PAUSE (R156). -/
  | pause (h : Header) (payload : List Byte)
  /-- RESUME (R156). -/
  | resume (h : Header) (payload : List Byte)
  /-- PORT_OUTPUT_GRANT (R155). -/
  | portOutputGrant (p : BackbonePort)
  /-- PERIOD_BOUNDARY (R11). -/
  | periodBoundary
  /-- SWEEP_VISIT (R11): the sweep reaches its next device. -/
  | sweepVisit
  /-- DOUBLE_KNOCK_WINDOW_EXPIRY (R46). -/
  | doubleKnockWindowExpiry (zone : Nat)
  /-- WALK_TEST_TIMER_EXPIRY (R52). -/
  | walkTestTimerExpiry (zone : Nat)
  /-- PULSE_TIMER_EXPIRY (R68). -/
  | pulseTimerExpiry (door : Nat)
  /-- HELD_COMPARE_A (R69). -/
  | heldCompareA (door : Nat)
  /-- HELD_COMPARE_B (R69). -/
  | heldCompareB (door : Nat)
  /-- EXIT_DELAY_EXPIRY (R87). -/
  | exitDelayExpiry (zone : Nat)
  /-- ENTRY_DELAY_EXPIRY (R91). -/
  | entryDelayExpiry (zone : Nat)
  /-- ESCALATION_STEP (R111), of the call with this number. -/
  | escalationStep (call : Nat)
  /-- ESCALATION_CYCLE_END (R112), of the call with this number. -/
  | escalationCycleEnd (call : Nat)
  /-- CONFIRMATION_TIMER_EXPIRY (R141). -/
  | confirmationTimerExpiry
  /-- BEAT_TIMER_EXPIRY (R157). -/
  | beatTimerExpiry
  /-- SIGN_PASS_VISIT (R121): the pass reaches its next sign. -/
  | signPassVisit
  /-- COLD_START (R174). -/
  | coldStart
deriving DecidableEq, Repr

end Sys2Proof
end

