-- ==== Sys2Proof/Decode.lean ====
section
/-! DEFINITION. Reading a command from a word of the opcode table. No row of spec/opcode_table.json gives bits: the
commands are frames, expiries and pins, so no word spells one (log 16). Frames on the wire are read in
Machine/Bytes.lean. -/

namespace Sys2Proof

/-- The command that a word spells by the table's bits; the table gives none. -/
def decodeTableWord (_nbits _w : Nat) : Option Instr := none

end Sys2Proof
end

