-- ==== Sys2Proof/Config.lean ====
section
/-! DEFINITION. What is fixed for every JLW-32 (the capacities and line rates of 00_scope.md and chapter 11), and
the free values: results the spec does not state, given here as constants without a body, so that no proof can
know them. -/

namespace Sys2Proof.Config

/-- Entries of the notice queue (R153). -/
def noticeCapacity : Nat := 64

/-- Frames of one pass-through queue (R151). -/
def passCapacity : Nat := 8

/-- Entries of one answer queue (R152). -/
def answerCapacity : Nat := 16

/-- Live calls (R99). -/
def callCapacity : Nat := 16

/-- Order records (R134). -/
def poolCapacity : Nat := 32

/-- Records of order classes 1 and 2 together (R134). -/
def lowerClassCapacity : Nat := 24

/-- Records of order class 2 (R134). -/
def class2Capacity : Nat := 12

/-- Sends of one order before it fails (R141). -/
def maxAttempts : Nat := 4

/-- The highest value of a counter (R160). -/
def counterTop : Nat := 65535

/-- The longest payload (R147). -/
def maxPayload : Nat := 48

/-- The longest frame (R147). -/
def maxFrame : Nat := 56

/-- The clock advances by one byte time of U and D, 40 µs (chapter 11, electrical summary).
DESIGN CHOICE (log 2): the spec gives times, not a tick. -/
def ticksPerSecond : Nat := 25000

/-- The confirmation timer, 250 ms (R139). -/
def confirmationTicks : Nat := 6250

/-- A byte on U or D takes 40 µs (chapter 11). -/
def backboneByteTicks : Nat := 1

/-- A byte on F takes 160 µs (chapter 11). -/
def fieldByteTicks : Nat := 4

/-- The part leaves at least 2 byte times between the frames it sends (chapter 11). -/
def gapBytes : Nat := 2

/-- FREE VALUE, DESIGN CHOICE (log 5). Whether a time that is not a whole number of its unit is written rounded up or
rounded down: no rule gives the rounding. R57, R96 and R158 and the table of the door record give the unit; R118 and R170
give none, and log 36 chooses seconds. The arguments are the time and its unit, in ticks. -/
opaque roundsTimeUp : Nat → Nat → Bool

/-- FREE VALUE, DESIGN CHOICE (log 6). Whether READ-TABLE gives the byte at an offset of a stored entry of a table as
it was loaded, ignored bits included, or with its ignored bits clear: R178 ignores those bits and R169 does not say
how they read. The arguments are the table code and the offset. -/
opaque keepsIgnored : Nat → Nat → Bool

/-- FREE VALUE, DESIGN CHOICE (log 7). The byte that stands for the request code in the ANSWER to a SET with an empty
payload, which has no request code (R177). -/
opaque emptySetCode : Byte

end Sys2Proof.Config
end

