-- ==== Sys2Proof/Machine/State.lean ====
section
/-! DEFINITION. The state of the JLW-32 as plain data: the ten units of 00_scope.md with everything each holds, the
three output lines, the clock and the queue of waiting commands; the machine's faults and refusals; the state after a
cold start. Tables indexed by device, zone or class number are vectors whose slot 0 of devices and zones is never
used. -/

namespace Sys2Proof.Machine

/-! ### Frames -/

/-- Frame kinds (R175). -/
inductive FrameKind where
  | report | order | set | answer | notice | beat | pause | resume
deriving DecidableEq, Repr

/-- A frame that has passed its check (R175), without its check bytes and payload length. -/
structure Frame where
  destStation : BitVec 5
  destDevice : BitVec 7
  srcStation : BitVec 5
  srcDevice : BitVec 7
  kind : FrameKind
  hop : BitVec 4
  tag : Byte
  payload : List Byte
deriving DecidableEq, Repr

/-- A frame whose send on a line has begun, and the clock at which the line is free again (R151, R155). -/
structure Sending where
  frame : Frame
  endsAt : Nat
deriving DecidableEq, Repr

/-- A running timer: the clock when it started and its length, both in ticks. A stopped timer is `none`. -/
structure Timer where
  start : Nat
  len : Nat
deriving DecidableEq, Repr

/-! ### Codes of chapter 11 -/

/-- Results of requests (R164). -/
inductive Result where
  | done | badRequest | badIndex | badValue | busyEntry | fireHold | notConfigured | occupied | doorOpen | noPermit
  | denied | stillActive | queueFull | failed
deriving DecidableEq, Repr

/-- Part states (R162). -/
inductive PartState where
  | unnumbered | unconfigured | running
deriving DecidableEq, Repr

/-- Link states (R157). -/
inductive LinkState where
  | standAlone | online
deriving DecidableEq, Repr

/-- Wing modes (R171). -/
inductive WingMode where
  | day | night
deriving DecidableEq, Repr

/-- Device kinds (R3). -/
inductive DeviceKind where
  | smoke | heat | mcp | motion | door | help | sign
deriving DecidableEq, Repr

/-- Kinds of detector a class serves (R17). -/
inductive DetectorKind where
  | smoke | heat
deriving DecidableEq, Repr

/-- Detector states (chapter 2). -/
inductive DetectorState where
  | disabled | quiet | pre | verify | alarm | trouble
deriving DecidableEq, Repr

/-- Classifications of a report (R22). -/
inductive Classification where
  | none | fault | saturated | low | normal | absent
deriving DecidableEq, Repr

/-- Compare results (R26). -/
inductive Compare where
  | none | below | pre | above | unordered
deriving DecidableEq, Repr

/-- Zone kinds (chapter 3). -/
inductive ZoneKind where
  | gallery | corridor | stair | strongroom | service
deriving DecidableEq, Repr

/-- Coincidence modes (chapter 3). -/
inductive Coincidence where
  | single | double
deriving DecidableEq, Repr

/-- Zone fire states (chapter 3). -/
inductive FireState where
  | disabled | normal | alert | alarm | test
deriving DecidableEq, Repr

/-- Release demands (R56). -/
inductive Demand where
  | none | compartment | full
deriving DecidableEq, Repr

/-- Guard states (chapter 5). -/
inductive GuardState where
  | disarmed | exiting | armed | entering | intrusion
deriving DecidableEq, Repr

/-- Source kinds of an intrusion (chapter 5). -/
inductive SourceKind where
  | motion | opening | forced | exitRequest | help | tamper | entryDelay
deriving DecidableEq, Repr

/-- Door kinds (chapter 4). -/
inductive DoorKind where
  | egress | fire | secure | strongroom
deriving DecidableEq, Repr

/-- Door settings (chapter 4). -/
inductive Setting where
  | lock | unlock | hold | release
deriving DecidableEq, Repr

/-- Causes of a desired setting (R61). -/
inductive DesiredCause where
  | schedule | fire
deriving DecidableEq, Repr

/-- Door states (chapter 4). -/
inductive DoorState where
  | secured | ajar | free | held | shut | openAuth | propped | forced | released | fault
deriving DecidableEq, Repr

/-- Contacts of a door (R3). -/
inductive Contact where
  | closed | open
deriving DecidableEq, Repr

/-- Lock feedback of a door module (R3): LOCKED or UNLOCKED, and HELD or FREE for a FIRE door. -/
inductive LockFeedback where
  | locked | unlocked | held | free
deriving DecidableEq, Repr

/-- Pulse windows (R68). -/
inductive PulseWindow where
  | closed | pending | open
deriving DecidableEq, Repr

/-- Fault causes of a door (R76). -/
inductive FaultCause where
  | missing | orderFailed
deriving DecidableEq, Repr

/-- Kinds of call, and the two buttons of a help point (chapter 6). -/
inductive CallKind where
  | assist | urgent
deriving DecidableEq, Repr

/-- Call states (chapter 6). -/
inductive CallState where
  | waiting | offered | taken
deriving DecidableEq, Repr

/-- Lamp states of a help point (R104). -/
inductive LampState where
  | off | waiting | answered | busy
deriving DecidableEq, Repr

/-- Arrows of a sign (chapter 7). -/
inductive Arrow where
  | left | right | ahead | up | down
deriving DecidableEq, Repr

/-- Display codes of a sign (chapter 7). -/
inductive Display where
  | dark
  | cross
  | steady (a : Arrow)
  | flashing (a : Arrow)
deriving DecidableEq, Repr

/-- Order codes with their arguments (R133). -/
inductive OrderCode where
  | lock
  | unlock
  | pulse (seconds : Nat)
  | hold
  | release
  | display (d : Display)
  | lamp (l : LampState)
  | raw (payload : List Byte)
deriving DecidableEq, Repr

/-- Origins of an order record (R133). The relaying station's device is kept with it, since its ANSWER is addressed
to the source device of the request (R152). -/
inductive Origin where
  | internal
  | relayed (port : BackbonePort) (station : BitVec 5) (device : BitVec 7) (tag : Byte)
deriving DecidableEq, Repr

/-- Watch modes (R159). -/
inductive WatchMode where
  | quiet | trouble | all
deriving DecidableEq, Repr

/-- Sides of an output arbiter (R155). -/
inductive ArbiterMark where
  | own | pass
deriving DecidableEq, Repr

/-- The two presence sets (R9). -/
inductive PresenceSet where
  | a | b
deriving DecidableEq, Repr

/-- Causes of TEST-END, as coded in chapter 11. -/
inductive TestEndCause where
  | endTest | limit | disabled
deriving DecidableEq, Repr

/-- Causes of ZONE-DISARMED, as coded in chapter 11. -/
inductive DisarmCause where
  | disarm | ackIntrusion | fire | disabled
deriving DecidableEq, Repr

/-- Causes of CALL-WITHDRAWN (R107). -/
inductive WithdrawCause where
  | attention | preEmpted | standAlone
deriving DecidableEq, Repr

/-- The 17 counters, in the order of R160. -/
inductive Counter where
  | badFrameU | badFrameD | badFrameF | tooLongU | tooLongD | tooLongF | hopExpired | passDroppedUp | passDroppedDown
  | noticesDropped | ordersFailed | ordersDenied | ordersSkipped | callsLost | unknownDevice | requestsDroppedU
  | requestsDroppedD
deriving DecidableEq, Repr

/-! ### Notices -/

/-- A trouble cause set (chapter 1): each cause is present or absent. -/
structure Causes where
  missing : Bool
  fault : Bool
  low : Bool
  compLimit : Bool
  tamper : Bool
  signFault : Bool
  lampFault : Bool
deriving DecidableEq, Repr

/-- The empty cause set. -/
def Causes.empty : Causes := ⟨false, false, false, false, false, false, false⟩

/-- Notices with the content their chapters list, in that order, and watch copies of field reports (R153, R159). -/
inductive Notice where
  | fireAlert (zone : Nat) (kind : ZoneKind) (detector : Nat)
  | fireAlarm (zone : Nat) (kind : ZoneKind) (cause : Nat) (occupancy : Option Nat) (first : Nat)
  | alertUnconfirmed (zone returned : Nat)
  | fireReset (zone : Nat) (left : FireState)
  /-- `cause` is the zone, or 0 for EVACUATE (chapter 11). -/
  | evacOn (cause : Nat)
  | evacOff
  | noRoute (sign device zone : Nat)
  | doorForced (door : Nat) (kind : DoorKind) (sideA sideB : Nat) (mode : WingMode)
  | doorHeld (door sideA sideB elapsed : Nat)
  | doorPropped (door sideA sideB : Nat)
  | doorClosed (door sideA sideB : Nat)
  | zoneArmed (zone : Nat) (occupancy : Option Nat)
  | armFailed (zone : Nat) (reason : Result) (firstDoor : Option Nat)
  | entryStart (zone door delay : Nat)
  | intrusion (zone : Nat) (kind : SourceKind) (which : Nat) (left : GuardState) (mode : WingMode)
      (occupancy : Option Nat)
  | zoneDisarmed (zone : Nat) (left : GuardState) (cause : DisarmCause)
  | presence (zone device : Nat)
  | callOffer (call point zone : Nat) (kind : CallKind) (priority press : Nat) (trapped unanswered : Bool)
  | callWithdrawn (call : Nat) (cause : WithdrawCause)
  | callDropped (call point zone : Nat) (kind : CallKind) (priority newcomer : Nat)
  | repeatPress (call point zone : Nat) (button : CallKind)
  | callUnanswered (call point zone : Nat) (kind : CallKind) (priority : Nat) (state : CallState) (press : Nat)
      (trapped : Bool) (cycles : Nat)
  | trouble (device : Nat) (kind : Option DeviceKind) (zone : Nat) (causes : Causes) (state : Option DetectorState)
  | detectorPre (device zone reading : Nat) (filtered : Int) (set : WingMode)
  | testStart (zone : Nat)
  | testPass (device zone : Nat) (filtered : Option Int)
  | testEnd (zone : Nat) (cause : TestEndCause)
  | doorFault (door module : Nat) (cause : FaultCause)
  | doorRestored (door module : Nat)
  | occupancyClamp (zone : Nat) (upper : Bool) (excess : Nat)
  | signOut (sign device : Nat) (ordered : Display)
  | signRestored (sign device : Nat)
  | orderDone (target : Nat) (code : OrderCode) (cls sends : Nat)
  | orderFailed (target : Nat) (code : OrderCode) (cls : Nat) (origin : Origin) (haltSet : Bool)
  | linkStandalone (timeout : Nat)
  | linkOnline (stood : Nat)
  /-- A watch copy: the reporting device, its tag and its payload as received (R159). -/
  | watchCopy (device : Nat) (tag : Byte) (payload : List Byte)
deriving DecidableEq, Repr

/-! ### Tables as loaded (chapters 1 to 4, 7 and 10) -/

/-- The wing record with its loaded mark (R167, R168). `asLoaded` holds the bytes of its latest load, for the bits
that R178 ignores. -/
structure WingRecord where
  loaded : Bool
  period : Nat
  missingLimit : Nat
  beatTimeout : Nat
  knockWindow : Nat
  walkLimit : Nat
  stepA : Nat
  cycleB : Nat
  assistBase : Nat
  urgentBase : Nat
  exitDelay : Nat
  entryDelay : Nat
  watchMode : WatchMode
  watchMask : Byte
  pulseTime : Nat
  /-- The 16 bytes of the permission map (R178). -/
  permission : List Byte
  asLoaded : List Byte
deriving DecidableEq, Repr

/-- A zone entry (R41). -/
structure ZoneEntry where
  enabled : Bool
  kind : ZoneKind
  mode : Coincidence
  counted : Bool
  asLoaded : List Byte
deriving DecidableEq, Repr

/-- A device entry (R1); its kind is `none` until one is loaded (R178). -/
structure DeviceEntry where
  enabled : Bool
  kind : Option DeviceKind
  zone : Nat
  cls : Nat
  asLoaded : List Byte
deriving DecidableEq, Repr

/-- One judgement set of a class: smoothing exponent, pre-alarm level, alarm level, verify count (chapter 2). -/
structure JudgeSet where
  s : Nat
  p : Nat
  a : Nat
  v : Nat
deriving DecidableEq, Repr

/-- A class entry with its loaded mark (R17); its kind is `none` until one is loaded. -/
structure ClassEntry where
  loaded : Bool
  kind : Option DetectorKind
  drift : Bool
  floor : Nat
  b0 : Nat
  bmin : Nat
  bmax : Nat
  window : Nat
  day : JudgeSet
  night : JudgeSet
  asLoaded : List Byte
deriving DecidableEq, Repr

/-- A door entry (R59). -/
structure DoorEntry where
  enabled : Bool
  fireRelease : Bool
  entryDoor : Bool
  module : Nat
  kind : DoorKind
  sideA : Nat
  sideB : Nat
  heldA : Nat
  heldB : Nat
  asLoaded : List Byte
deriving DecidableEq, Repr

/-- An option of a sign that is not empty (chapter 7). -/
structure SignOption where
  arrow : Arrow
  zones : List Nat
  doors : List Nat
deriving DecidableEq, Repr

/-- A sign entry (R119): its default option is 1 to 4, and its four slots are in order. -/
structure SignEntry where
  enabled : Bool
  device : Nat
  default : Nat
  slots : List (Option SignOption)
  asLoaded : List Byte
deriving DecidableEq, Repr

/-- The wing record before its first load: all fields zero (R174). -/
def WingRecord.cold : WingRecord where
  loaded := false
  period := 0
  missingLimit := 0
  beatTimeout := 0
  knockWindow := 0
  walkLimit := 0
  stepA := 0
  cycleB := 0
  assistBase := 0
  urgentBase := 0
  exitDelay := 0
  entryDelay := 0
  watchMode := .quiet
  watchMask := 0#8
  pulseTime := 0
  permission := List.replicate 16 0#8
  asLoaded := List.replicate 33 0#8

/-- A zone entry after a cold start: disabled, GALLERY, SINGLE, not counted (R41). -/
def ZoneEntry.cold : ZoneEntry := ⟨false, .gallery, .single, false, List.replicate 3 0#8⟩

/-- A device entry after a cold start: disabled, with kind, zone and class zero (R1). -/
def DeviceEntry.cold : DeviceEntry := ⟨false, none, 0, 0, List.replicate 3 0#8⟩

/-- A class entry after a cold start: unloaded, every field zero (R17). -/
def ClassEntry.cold : ClassEntry :=
  ⟨false, none, false, 0, 0, 0, 0, 0, ⟨0, 0, 0, 0⟩, ⟨0, 0, 0, 0⟩, List.replicate 22 0#8⟩

/-- A door entry after a cold start: disabled, all fields zero (R59). -/
def DoorEntry.cold : DoorEntry := ⟨false, false, false, 0, .egress, 0, 0, 0, 0, List.replicate 9 0#8⟩

/-- A sign entry after a cold start: disabled, all fields zero, every slot empty (R119). -/
def SignEntry.cold : SignEntry := ⟨false, 0, 0, [none, none, none, none], List.replicate 31 0#8⟩

/-! ### Port Unit (chapter 9) -/

/-- A reserved entry of an answer queue: for a SET, or for a relayed ORDER of this station, device and tag (R152). -/
inductive Reservation where
  | forSet
  | forOrder (station : BitVec 5) (device : BitVec 7) (tag : Byte)
deriving DecidableEq, Repr

/-- An answer queue (R152): its reserved entries, and its ready ANSWER frames in the order in which they became
ready. -/
structure AnswerQueue where
  reserved : List Reservation
  ready : List Frame
deriving DecidableEq, Repr

/-- An entry of the notice queue (R153), with the ports it is owed on. -/
structure NoticeEntry where
  notice : Notice
  owedU : Bool
  owedD : Bool
deriving DecidableEq, Repr

/-- The Port Unit. -/
structure PortUnit where
  /-- The upward pass-through queue: frames from D to be repeated on U, oldest first. -/
  upQueue : List Frame
  /-- The downward pass-through queue: frames from U to be repeated on D, oldest first. -/
  downQueue : List Frame
  answersU : AnswerQueue
  answersD : AnswerQueue
  /-- The notice queue, oldest entry first. -/
  notices : List NoticeEntry
  markU : ArbiterMark
  markD : ArbiterMark
  link : LinkState
  /-- The clock when the link last went STAND-ALONE; `none` since a cold start (R158). -/
  aloneSince : Option Nat
  beatTimer : Option Timer
  pause : Bool
  /-- The 17 counters, in the order of `Counter`. -/
  counters : Vector Nat 17
  /-- Frames on each output line, oldest first. -/
  lineU : List Sending
  lineD : List Sending
  lineF : List Sending
deriving DecidableEq, Repr

/-! ### Supervision Unit (chapter 1) -/

/-- The supervision record of a device: its six-period history, newest first (`true` for seen), and its trouble cause
set, which holds the MISSING mark. -/
structure DeviceRecord where
  history : List Bool
  causes : Causes
deriving DecidableEq, Repr

/-- Six periods seen, no cause (R11, R2). -/
def DeviceRecord.cold : DeviceRecord := ⟨List.replicate 6 true, .empty⟩

/-- The Supervision Unit. -/
structure SupervisionUnit where
  records : Vector DeviceRecord 127
  setA : Vector Bool 127
  setB : Vector Bool 127
  /-- The presence set in use. -/
  selector : PresenceSet
  /-- The period timer; idle until the wing record is first loaded (R10). -/
  periodTimer : Option Timer
  /-- The supervision period of the cycle in progress, in seconds. -/
  period : Nat
  /-- The missing limit in use for the current sweep. -/
  missingLimit : Nat
  /-- The buffered supervision period and missing limit (R10). -/
  buffered : Option (Nat × Nat)
  /-- The device the running sweep visits next, or `none` while no sweep runs (R11). -/
  sweep : Option Nat
deriving DecidableEq, Repr

/-! ### Detector Evaluator (chapter 2) -/

/-- A detector record. Baseline and filtered value are in sixteenths, the limits in force in counts. -/
structure Detector where
  state : DetectorState
  baseline : Nat
  limitLow : Nat
  limitHigh : Nat
  filtered : Int
  verify : Nat
  lastClass : Classification
  lastCompare : Compare
  lastNormal : Option Nat
  lastSet : Option WingMode
deriving DecidableEq, Repr

/-- The Detector Evaluator: a record for each device whose entry is SMOKE or HEAT. -/
structure DetectorUnit where
  detectors : Vector (Option Detector) 127
deriving DecidableEq, Repr

/-! ### Zone Unit (chapter 3) -/

/-- The dynamic record of a zone on the fire side. -/
structure ZoneRecord where
  fire : FireState
  /-- The double-knock window timer. -/
  window : Option Timer
  /-- The walk-test timer. -/
  walk : Option Timer
  /-- The device that last put the zone in ALARM. -/
  cause : Option Nat
deriving DecidableEq, Repr

/-- A zone record after a cold start (R58). -/
def ZoneRecord.cold : ZoneRecord := ⟨.disabled, none, none, none⟩

/-- The Zone Unit. The route-stale flag is shared with the Door and Sign Units. -/
structure ZoneUnit where
  zones : Vector ZoneRecord 25
  /-- The fire zone list, in the order of entry to ALARM (R49). -/
  fireList : List Nat
  evacuation : Bool
  routeStale : Bool
  /-- The last activated flag of each manual call point (R47). -/
  activated : Vector Bool 127
deriving DecidableEq, Repr

/-! ### Door Unit (chapter 4) -/

/-- The dynamic record of a door, with its owed mark. -/
structure DoorRecord where
  /-- `none` for a disabled door. -/
  state : Option DoorState
  desired : Setting
  cause : DesiredCause
  /-- `none` for UNKNOWN. -/
  commanded : Option Setting
  contact : Option Contact
  feedback : Option LockFeedback
  exitFlag : Bool
  latch : Bool
  window : PulseWindow
  pulseTimer : Option Timer
  heldTimer : Option Timer
  /-- The running held timer has reached compare A. -/
  heldReached : Bool
  fault : Option FaultCause
  owed : Bool
deriving DecidableEq, Repr

/-- A door record after a cold start (R84). -/
def DoorRecord.cold : DoorRecord :=
  ⟨none, .lock, .schedule, none, none, none, false, false, .closed, none, none, false, none, false⟩

/-- The occupancy of a zone with its clamp counters (R80). -/
structure Occupancy where
  count : Nat
  undercount : Nat
  overcount : Nat
deriving DecidableEq, Repr

/-- The Door Unit. -/
structure DoorUnit where
  doors : Vector DoorRecord 32
  /-- The door the strongroom permit names (R74). -/
  permit : Option Nat
  occupancy : Vector Occupancy 25
deriving DecidableEq, Repr

/-! ### Guard Unit (chapter 5) -/

/-- The guard record of a zone. -/
structure GuardRecord where
  state : GuardState
  exitTimer : Option Timer
  entryTimer : Option Timer
  entering : Option Nat
  /-- The source kind with its device or door. -/
  source : Option (SourceKind × Nat)
  further : Nat
deriving DecidableEq, Repr

/-- A guard record after a cold start (R97). -/
def GuardRecord.cold : GuardRecord := ⟨.disarmed, none, none, none, none, 0⟩

/-- The Guard Unit. -/
structure GuardUnit where
  guards : Vector GuardRecord 25
  /-- The last motion flag of each MOTION device (R89). -/
  motion : Vector Bool 127
deriving DecidableEq, Repr

/-! ### Call Unit (chapter 6) -/

/-- A running escalation timer: when the cycle started, the step time and cycle length it started with, in seconds,
and whether its step has been taken (R111). -/
structure Escalation where
  start : Nat
  stepA : Nat
  cycleB : Nat
  stepped : Bool
deriving DecidableEq, Repr

/-- A call record. -/
structure Call where
  number : Nat
  point : Nat
  zone : Nat
  kind : CallKind
  priority : Nat
  state : CallState
  press : Nat
  trapped : Bool
  unanswered : Bool
  timer : Option Escalation
  /-- Cycles completed since its creation, held at 255 (R112). -/
  cycles : Nat
deriving DecidableEq, Repr

/-- The Call Unit. -/
structure CallUnit where
  /-- The live calls in arrival order, oldest first; queue order follows from it and the priorities (R99). -/
  calls : List Call
  attention : Nat
  /-- The next-number pointer (R98). -/
  nextNumber : Nat
deriving DecidableEq, Repr

/-! ### Sign Unit (chapter 7) -/

/-- The dynamic record of a sign, with its owed mark. -/
structure SignRecord where
  /-- `none` until an entry is loaded. -/
  desired : Option Display
  /-- `none` for UNKNOWN. -/
  commanded : Option Display
  echo : Option Display
  fault : Bool
  owed : Bool
deriving DecidableEq, Repr

/-- A sign record after a cold start (R130). -/
def SignRecord.cold : SignRecord := ⟨none, none, none, false, false⟩

/-- The Sign Unit. -/
structure SignUnit where
  signs : Vector SignRecord 48
  /-- The sign the running pass visits next, or `none` while no pass runs (R121). -/
  pass : Option Nat
  repeatMark : Bool
deriving DecidableEq, Repr

/-! ### Order Unit (chapter 8) -/

/-- An order record (R133). -/
structure OrderRecord where
  target : Nat
  code : OrderCode
  cls : Nat
  tag : Option Nat
  attempts : Nat
  notify : Bool
  haltOnFail : Bool
  origin : Origin
  /-- The record is in flight. -/
  inFlight : Bool
deriving DecidableEq, Repr

/-- The Order Unit. -/
structure OrderUnit where
  /-- The pool in chain order (R134). -/
  pool : List OrderRecord
  confirmTimer : Option Timer
  /-- The class 2 halt (R143). -/
  halt : Bool
  /-- The tag counter, 1 to 255 (R139). -/
  tagCounter : Nat
deriving DecidableEq, Repr

/-! ### Management Unit (chapter 10) -/

/-- The Management Unit with the loaded tables. -/
structure ManagementUnit where
  part : PartState
  station : Option (BitVec 5)
  mode : WingMode
  wing : WingRecord
  zones : Vector ZoneEntry 25
  devices : Vector DeviceEntry 127
  classes : Vector ClassEntry 8
  doors : Vector DoorEntry 32
  signs : Vector SignEntry 48
deriving DecidableEq, Repr

/-! ### The machine -/

/-- The whole state. -/
structure State where
  /-- Commands that wait, first in first out. -/
  pending : List Instr
  /-- Ticks since the cold start; the model's own field (log 2). -/
  clock : Nat
  port : PortUnit
  sup : SupervisionUnit
  det : DetectorUnit
  zone : ZoneUnit
  door : DoorUnit
  guard : GuardUnit
  call : CallUnit
  sign : SignUnit
  order : OrderUnit
  mgmt : ManagementUnit
deriving DecidableEq, Repr

/-- Faults. The spec names no condition under which the part stops, so there is none: every command gives a next
state (log 1). -/
inductive Fault where
deriving DecidableEq, Repr

/-- Refusals. -/
inductive Refusal where
  /-- Raised by `exec` for a command that has no meaning yet; safe, since no next state is claimed. No arm raises it. -/
  | notModelled (mnemonic : String)
deriving DecidableEq, Repr

/-- The Port Unit after a cold start (R161). -/
def PortUnit.cold : PortUnit where
  upQueue := []
  downQueue := []
  answersU := ⟨[], []⟩
  answersD := ⟨[], []⟩
  notices := []
  markU := .own
  markD := .own
  link := .standAlone
  aloneSince := none
  beatTimer := none
  pause := false
  counters := Vector.replicate 17 0
  lineU := []
  lineD := []
  lineF := []

/-- The Supervision Unit after a cold start (chapter 1). -/
def SupervisionUnit.cold : SupervisionUnit where
  records := Vector.replicate 127 .cold
  setA := Vector.replicate 127 false
  setB := Vector.replicate 127 false
  selector := .a
  periodTimer := none
  period := 0
  missingLimit := 0
  buffered := none
  sweep := none

/-- The Management Unit after a cold start (R174). -/
def ManagementUnit.cold : ManagementUnit where
  part := .unnumbered
  station := none
  mode := .night
  wing := .cold
  zones := Vector.replicate 25 .cold
  devices := Vector.replicate 127 .cold
  classes := Vector.replicate 8 .cold
  doors := Vector.replicate 32 .cold
  signs := Vector.replicate 48 .cold

/-- The machine after a cold start (R174): every unit at the values its chapter gives. -/
def State.reset : State where
  pending := []
  clock := 0
  port := .cold
  sup := .cold
  det := ⟨Vector.replicate 127 none⟩
  zone := ⟨Vector.replicate 25 .cold, [], false, false, Vector.replicate 127 false⟩
  door := ⟨Vector.replicate 32 .cold, none, Vector.replicate 25 ⟨0, 0, 0⟩⟩
  guard := ⟨Vector.replicate 25 .cold, Vector.replicate 127 false⟩
  call := ⟨[], 0, 1⟩
  sign := ⟨Vector.replicate 48 .cold, none, false⟩
  order := ⟨[], none, false, 1⟩
  mgmt := .cold

end Sys2Proof.Machine
end

