-- ==== Sys2Proof/Machine/Bytes.lean ====
section
/-! DEFINITION. Bytes and frames on the wire: multi-byte fields, the codes of chapter 11, the CRC, and the reading and
writing of whole frames (R147, R175). -/

namespace Sys2Proof.Machine

/-! ### Fields of one and two bytes (R179) -/

/-- A number written in one byte. -/
def byte1 (n : Nat) : List Byte := [BitVec.ofNat 8 n]

/-- A number written in two bytes, most significant first. -/
def byte2 (n : Nat) : List Byte := [BitVec.ofNat 8 (n / 256), BitVec.ofNat 8 n]

/-- A signed number written in two bytes of two's complement. -/
def byte2Int (i : Int) : List Byte := byte2 (BitVec.ofInt 16 i).toNat

/-- A flag as a byte: 1 set and 0 clear. -/
def flagByte (b : Bool) : List Byte := byte1 (if b then 1 else 0)

/-- A one-byte field, or FFh for none. -/
def orNone1 (o : Option Nat) : List Byte := byte1 (o.getD 0xFF)

/-- A two-byte field, or FFFFh for none. -/
def orNone2 (o : Option Nat) : List Byte := byte2 (o.getD 0xFFFF)

/-- The number two bytes hold, most significant first. -/
def read2 (hi lo : Byte) : Nat := hi.toNat * 256 + lo.toNat

/-! ### Codes -/

/-- Frame kind codes (chapter 11). -/
def FrameKind.code : FrameKind → BitVec 4
  | .report => 1#4
  | .order => 2#4
  | .set => 3#4
  | .answer => 4#4
  | .notice => 5#4
  | .beat => 6#4
  | .pause => 7#4
  | .resume => 8#4

/-- The frame kind of a code; 0h and 9h to Fh are unknown (R175). -/
def FrameKind.ofCode (c : BitVec 4) : Option FrameKind :=
  match c.toNat with
  | 1 => some .report
  | 2 => some .order
  | 3 => some .set
  | 4 => some .answer
  | 5 => some .notice
  | 6 => some .beat
  | 7 => some .pause
  | 8 => some .resume
  | _ => none

/-- Result codes. -/
def Result.code : Result → Nat
  | .done => 0
  | .badRequest => 1
  | .badIndex => 2
  | .badValue => 3
  | .busyEntry => 4
  | .fireHold => 5
  | .notConfigured => 6
  | .occupied => 7
  | .doorOpen => 8
  | .noPermit => 9
  | .denied => 0x0A
  | .stillActive => 0x0B
  | .queueFull => 0x0C
  | .failed => 0x0D

/-- Part state codes. -/
def PartState.code : PartState → Nat
  | .unnumbered => 0
  | .unconfigured => 1
  | .running => 2

/-- Link state codes. -/
def LinkState.code : LinkState → Nat
  | .standAlone => 0
  | .online => 1

/-- Wing mode codes. -/
def WingMode.code : WingMode → Nat
  | .day => 0
  | .night => 1

/-- Device kind codes; 0 marks an entry never loaded (R178). -/
def DeviceKind.code : Option DeviceKind → Nat
  | none => 0
  | some .smoke => 1
  | some .heat => 2
  | some .mcp => 3
  | some .motion => 4
  | some .door => 5
  | some .help => 6
  | some .sign => 7

/-- The device kind of a code (R178). -/
def DeviceKind.ofCode (n : Nat) : Option DeviceKind :=
  match n with
  | 1 => some .smoke
  | 2 => some .heat
  | 3 => some .mcp
  | 4 => some .motion
  | 5 => some .door
  | 6 => some .help
  | 7 => some .sign
  | _ => none

/-- Class detector kind codes; 0 marks an entry never loaded (R178). -/
def DetectorKind.code : Option DetectorKind → Nat
  | none => 0
  | some .smoke => 1
  | some .heat => 2

/-- The detector kind of a class code (R178). -/
def DetectorKind.ofCode (n : Nat) : Option DetectorKind :=
  match n with
  | 1 => some .smoke
  | 2 => some .heat
  | _ => none

/-- Detector state codes. -/
def DetectorState.code : DetectorState → Nat
  | .disabled => 0
  | .quiet => 1
  | .pre => 2
  | .verify => 3
  | .alarm => 4
  | .trouble => 5

/-- Classification codes. -/
def Classification.code : Classification → Nat
  | .none => 0
  | .fault => 1
  | .saturated => 2
  | .low => 3
  | .normal => 4
  | .absent => 5

/-- Compare codes. -/
def Compare.code : Compare → Nat
  | .none => 0
  | .below => 1
  | .pre => 2
  | .above => 3
  | .unordered => 4

/-- Zone kind codes. -/
def ZoneKind.code : ZoneKind → Nat
  | .gallery => 0
  | .corridor => 1
  | .stair => 2
  | .strongroom => 3
  | .service => 4

/-- The zone kind of a code. -/
def ZoneKind.ofCode (n : Nat) : Option ZoneKind :=
  match n with
  | 0 => some .gallery
  | 1 => some .corridor
  | 2 => some .stair
  | 3 => some .strongroom
  | 4 => some .service
  | _ => none

/-- Coincidence mode codes. -/
def Coincidence.code : Coincidence → Nat
  | .single => 0
  | .double => 1

/-- The coincidence mode of a code. -/
def Coincidence.ofCode (n : Nat) : Option Coincidence :=
  match n with
  | 0 => some .single
  | 1 => some .double
  | _ => none

/-- Zone fire state codes. -/
def FireState.code : FireState → Nat
  | .disabled => 0
  | .normal => 1
  | .alert => 2
  | .alarm => 3
  | .test => 4

/-- Release demand codes; the higher code is the higher demand (R61). -/
def Demand.code : Demand → Nat
  | .none => 0
  | .compartment => 1
  | .full => 2

/-- Guard state codes. -/
def GuardState.code : GuardState → Nat
  | .disarmed => 0
  | .exiting => 1
  | .armed => 2
  | .entering => 3
  | .intrusion => 4

/-- Intrusion source codes. -/
def SourceKind.code : SourceKind → Nat
  | .motion => 1
  | .opening => 2
  | .forced => 3
  | .exitRequest => 4
  | .help => 5
  | .tamper => 6
  | .entryDelay => 7

/-- Door kind codes. -/
def DoorKind.code : DoorKind → Nat
  | .egress => 0
  | .fire => 1
  | .secure => 2
  | .strongroom => 3

/-- The door kind of a code. -/
def DoorKind.ofCode (n : Nat) : Option DoorKind :=
  match n with
  | 0 => some .egress
  | 1 => some .fire
  | 2 => some .secure
  | 3 => some .strongroom
  | _ => none

/-- Door setting codes. -/
def Setting.code : Setting → Nat
  | .lock => 0
  | .unlock => 1
  | .hold => 2
  | .release => 3

/-- Desired cause codes. -/
def DesiredCause.code : DesiredCause → Nat
  | .schedule => 0
  | .fire => 1

/-- Door state codes. -/
def DoorState.code : DoorState → Nat
  | .secured => 0
  | .ajar => 1
  | .free => 2
  | .held => 3
  | .shut => 4
  | .openAuth => 5
  | .propped => 6
  | .forced => 7
  | .released => 8
  | .fault => 9

/-- Contact codes, as in the DOOR report. -/
def Contact.code : Contact → Nat
  | .closed => 1
  | .open => 2

/-- Lock feedback codes, as in the DOOR report. -/
def LockFeedback.code : LockFeedback → Nat
  | .locked => 1
  | .held => 1
  | .unlocked => 2
  | .free => 2

/-- Pulse window codes. -/
def PulseWindow.code : PulseWindow → Nat
  | .closed => 0
  | .pending => 1
  | .open => 2

/-- Fault cause codes. -/
def FaultCause.code : FaultCause → Nat
  | .missing => 0
  | .orderFailed => 1

/-- Call kind and button codes. -/
def CallKind.code : CallKind → Nat
  | .assist => 1
  | .urgent => 2

/-- Call state codes. -/
def CallState.code : CallState → Nat
  | .waiting => 0
  | .offered => 1
  | .taken => 2

/-- Lamp state codes. -/
def LampState.code : LampState → Nat
  | .off => 0
  | .waiting => 1
  | .answered => 2
  | .busy => 3

/-- The lamp state of a code. -/
def LampState.ofCode (n : Nat) : Option LampState :=
  match n with
  | 0 => some .off
  | 1 => some .waiting
  | 2 => some .answered
  | 3 => some .busy
  | _ => none

/-- Arrow codes of an option slot, where 0 is an empty slot. -/
def Arrow.slotCode : Arrow → Nat
  | .left => 1
  | .right => 2
  | .ahead => 3
  | .up => 4
  | .down => 5

/-- The arrow of an option slot's code. -/
def Arrow.ofSlotCode (n : Nat) : Option Arrow :=
  match n with
  | 1 => some .left
  | 2 => some .right
  | 3 => some .ahead
  | 4 => some .up
  | 5 => some .down
  | _ => none

/-- Display codes. -/
def Display.code : Display → Nat
  | .dark => 0x00
  | .cross => 0x01
  | .steady .left => 0x10
  | .steady .right => 0x11
  | .steady .ahead => 0x12
  | .steady .up => 0x13
  | .steady .down => 0x14
  | .flashing .left => 0x18
  | .flashing .right => 0x19
  | .flashing .ahead => 0x1A
  | .flashing .up => 0x1B
  | .flashing .down => 0x1C

/-- The display of a code; twelve codes are defined (R176). -/
def Display.ofCode (n : Nat) : Option Display :=
  match n with
  | 0x00 => some .dark
  | 0x01 => some .cross
  | 0x10 => some (.steady .left)
  | 0x11 => some (.steady .right)
  | 0x12 => some (.steady .ahead)
  | 0x13 => some (.steady .up)
  | 0x14 => some (.steady .down)
  | 0x18 => some (.flashing .left)
  | 0x19 => some (.flashing .right)
  | 0x1A => some (.flashing .ahead)
  | 0x1B => some (.flashing .up)
  | 0x1C => some (.flashing .down)
  | _ => none

/-- Watch mode codes. -/
def WatchMode.code : WatchMode → Nat
  | .quiet => 0
  | .trouble => 1
  | .all => 2

/-- The watch mode of a code. -/
def WatchMode.ofCode (n : Nat) : Option WatchMode :=
  match n with
  | 0 => some .quiet
  | 1 => some .trouble
  | 2 => some .all
  | _ => none

/-- TEST-END cause codes. -/
def TestEndCause.code : TestEndCause → Nat
  | .endTest => 0
  | .limit => 1
  | .disabled => 2

/-- ZONE-DISARMED cause codes. -/
def DisarmCause.code : DisarmCause → Nat
  | .disarm => 0
  | .ackIntrusion => 1
  | .fire => 2
  | .disabled => 3

/-- CALL-WITHDRAWN cause codes. -/
def WithdrawCause.code : WithdrawCause → Nat
  | .attention => 0
  | .preEmpted => 1
  | .standAlone => 2

/-- The code of a backbone port (chapter 11, order origin). -/
def portCode : BackbonePort → Nat
  | .u => 0
  | .d => 1

/-- A trouble cause set as one byte. -/
def Causes.code (c : Causes) : Nat :=
  (if c.missing then 0x80 else 0) + (if c.fault then 0x40 else 0) + (if c.low then 0x20 else 0)
    + (if c.compLimit then 0x10 else 0) + (if c.tamper then 0x08 else 0) + (if c.signFault then 0x04 else 0)
    + (if c.lampFault then 0x02 else 0)

/-- A history as one byte: bit 5 the newest period to bit 0 the oldest, 1 seen. -/
def historyCode (h : List Bool) : Nat := h.foldl (fun n seen => 2 * n + (if seen then 1 else 0)) 0

/-- An order code with its argument, as written in an ORDER payload, in notices and in the part summary. A RAW code is
written as 08h with the length of its relayed payload; its ORDER frame carries the relayed payload itself (R133). -/
def OrderCode.bytes : OrderCode → List Byte
  | .lock => byte1 0x01
  | .unlock => byte1 0x02
  | .pulse n => byte1 0x03 ++ byte1 n
  | .hold => byte1 0x04
  | .release => byte1 0x05
  | .display d => byte1 0x06 ++ byte1 d.code
  | .lamp l => byte1 0x07 ++ byte1 l.code
  | .raw p => byte1 0x08 ++ byte1 p.length

/-- The payload of the ORDER frame for a code (R133). -/
def OrderCode.payload : OrderCode → List Byte
  | .raw p => p
  | c => c.bytes

/-- An order origin as written in ORDER-FAILED: FFh, or the station, its port and its tag (chapter 11). -/
def Origin.bytes : Origin → List Byte
  | .internal => byte1 0xFF
  | .relayed p station _ tag => byte1 station.toNat ++ byte1 (portCode p) ++ [tag]

/-! ### Frames (R147, R175) -/

/-- One bit shifted into the CRC register against the polynomial x^16+x^12+x^5+1. -/
def crcBit (reg : BitVec 16) (bit : Bool) : BitVec 16 :=
  if reg.msb != bit then (reg <<< 1) ^^^ 0x1021#16 else reg <<< 1

/-- One byte shifted into the CRC register, most significant bit first. -/
def crcByte (reg : BitVec 16) (b : Byte) : BitVec 16 :=
  [7, 6, 5, 4, 3, 2, 1, 0].foldl (fun r i => crcBit r (b.getLsbD i)) reg

/-- The check of a run of bytes, from an initial value of all ones (R147). -/
def crc (bytes : List Byte) : BitVec 16 := bytes.foldl crcByte 0xFFFF#16

/-- The first six bytes of a frame (R175). -/
def Frame.headerBytes (f : Frame) : List Byte :=
  let address : BitVec 24 := f.destStation ++ f.destDevice ++ f.srcStation ++ f.srcDevice
  [address.extractLsb' 16 8, address.extractLsb' 8 8, address.extractLsb' 0 8, f.kind.code ++ f.hop, f.tag,
    BitVec.ofNat 8 f.payload.length]

/-- A frame as it stands on a line, with its check (R175). -/
def Frame.bytes (f : Frame) : List Byte :=
  let body := f.headerBytes ++ f.payload
  body ++ [(crc body).extractLsb' 8 8, (crc body).extractLsb' 0 8]

/-- Why a received frame is dropped by R147. -/
inductive FrameDrop where
  | tooLong
  | bad
deriving DecidableEq, Repr

/-- The frame that a port has received, or the counter its loss goes to (R147, R175). -/
def readFrame (r : Received) : Except FrameDrop Frame :=
  if r.bytes.length > Config.maxFrame then .error .tooLong
  else if r.stopBitMissing then .error .bad
  else
    match r.bytes with
    | b0 :: b1 :: b2 :: b3 :: b4 :: b5 :: rest =>
      let len := b5.toNat
      if len > Config.maxPayload ∨ rest.length ≠ len + 2 then .error .bad
      else
        let payload := rest.take len
        let check := crc ([b0, b1, b2, b3, b4, b5] ++ payload)
        if rest.drop len ≠ [check.extractLsb' 8 8, check.extractLsb' 0 8] then .error .bad
        else
          match FrameKind.ofCode (b3.extractLsb' 4 4) with
          | none => .error .bad
          | some kind =>
            let address : BitVec 24 := b0 ++ b1 ++ b2
            .ok
              { destStation := address.extractLsb' 19 5
                destDevice := address.extractLsb' 12 7
                srcStation := address.extractLsb' 7 5
                srcDevice := address.extractLsb' 0 7
                kind := kind
                hop := b3.extractLsb' 0 4
                tag := b4
                payload := payload }
    | _ => .error .bad

/-- The frame of a command that carries a header (R175). -/
def headerFrame (h : Header) (kind : FrameKind) (payload : List Byte) : Frame where
  destStation := h.destStation
  destDevice := h.destDevice
  srcStation := h.srcStation
  srcDevice := h.srcDevice
  kind := kind
  hop := h.hop
  tag := h.tag
  payload := payload

/-- The header fields of a frame received on a backbone port. -/
def Frame.header (p : BackbonePort) (f : Frame) : Header where
  port := p
  destStation := f.destStation
  destDevice := f.destDevice
  srcStation := f.srcStation
  srcDevice := f.srcDevice
  hop := f.hop
  tag := f.tag

end Sys2Proof.Machine
end

