-- ==== Sys2Proof/Machine/Operands.lean ====
section
/-! DEFINITION. The operand forms of chapter 11: report payloads by device kind (R3, R176), request payloads (R177),
and the options of a relayed ORDER (R176). -/

namespace Sys2Proof.Machine

/-! ### Reports (R3, R176) -/

/-- The content of a DOOR report; `locked` is lock code 1 (R3, R176). -/
structure DoorReport where
  contact : Contact
  locked : Bool
  exit : Bool
  tamper : Bool
  ab : Nat
  ba : Nat
deriving DecidableEq, Repr

/-- The content of a report, by device kind (R3). -/
inductive Report where
  | detector (kind : DetectorKind) (reading : Nat) (fault tamper : Bool)
  | mcp (activated tamper : Bool)
  | motion (motion tamper : Bool)
  | door (q : DoorReport)
  /-- `press` is the button event, or `none` for NONE. -/
  | help (press : Option CallKind) (lamp : LampState)
  | sign (echo : Display) (lampFail : Bool)
deriving DecidableEq, Repr

/-- A contact code of a DOOR report; 0 and 3 lie outside the range (R176). -/
def Contact.ofCode (n : Nat) : Option Contact :=
  match n with
  | 1 => some .closed
  | 2 => some .open
  | _ => none

/-- A lock-feedback code of a DOOR report: 1 is LOCKED or HELD, 2 UNLOCKED or FREE; 0 and 3 lie outside (R176). -/
def lockedOfCode (n : Nat) : Option Bool :=
  match n with
  | 1 => some true
  | 2 => some false
  | _ => none

/-- A button event code: NONE, ASSIST or URGENT; above 2 lies outside the range (R176). -/
def pressOfCode (n : Nat) : Option (Option CallKind) :=
  match n with
  | 0 => some none
  | 1 => some (some .assist)
  | 2 => some (some .urgent)
  | _ => none

/-- The content of a report payload by device kind, or `none` when it is short or holds a value outside its range
(R4, R176). Bytes beyond the layout and flag bits that are not named are ignored. -/
def readReport : DeviceKind → List Byte → Option Report
  | .smoke, b0 :: b1 :: b2 :: _ =>
    if read2 b0 b1 ≤ 1023 then some (.detector .smoke (read2 b0 b1) (b2.getLsbD 7) (b2.getLsbD 6)) else none
  | .heat, b0 :: b1 :: _ => some (.detector .heat b0.toNat (b1.getLsbD 7) (b1.getLsbD 6))
  | .mcp, b0 :: _ => some (.mcp (b0.getLsbD 7) (b0.getLsbD 6))
  | .motion, b0 :: _ => some (.motion (b0.getLsbD 7) (b0.getLsbD 6))
  | .door, b0 :: b1 :: b2 :: _ =>
    match Contact.ofCode (b0.extractLsb' 6 2).toNat, lockedOfCode (b0.extractLsb' 4 2).toNat with
    | some contact, some locked =>
      if b1.toNat ≤ 15 ∧ b2.toNat ≤ 15 then
        some (.door ⟨contact, locked, b0.getLsbD 3, b0.getLsbD 2, b1.toNat, b2.toNat⟩)
      else none
    | _, _ => none
  | .help, b0 :: b1 :: _ =>
    match pressOfCode b0.toNat, LampState.ofCode b1.toNat with
    | some press, some lamp => some (.help press lamp)
    | _, _ => none
  | .sign, b0 :: b1 :: _ => (Display.ofCode b0.toNat).map fun d => .sign d (b1.getLsbD 7)
  | _, _ => none

/-- The tamper flag of a report, where its kind has one (R7). -/
def Report.tamper : Report → Option Bool
  | .detector _ _ _ t => some t
  | .mcp _ t => some t
  | .motion _ t => some t
  | .door q => some q.tamper
  | .help _ _ => none
  | .sign _ _ => none

/-! ### Requests (R177) -/

/-- A SET payload, read by its request code (R177). -/
inductive Request where
  | assign (args : List Byte)
  | loadTable (table start : Byte) (entries : List Byte)
  | readTable (table start count : Byte)
  | readState (object index : Byte)
  | readCounters
  | setMode (mode : Byte)
  | restart
  | arm (zone : Byte)
  | disarm (zone : Byte)
  | ackIntrusion (zone : Byte)
  | ackDoor (door : Byte)
  | permit (door : Byte)
  | openDoor (door : Byte)
  | resetOccupancy (zone : Byte)
  | resetZone (zone : Byte)
  | startTest (zone : Byte)
  | endTest (zone : Byte)
  | evacuate
  | standDown
  | takeCall (call : Byte)
  | clearCall (call : Byte)
  | setAttention (level : Byte)
  | clearHalt
  /-- A payload whose request code or length no layout allows. -/
  | bad (payload : List Byte)
deriving DecidableEq, Repr

/-- The request of a payload by its code and the bytes after it, where the length is the one its layout gives. -/
def requestOf (code : Nat) (args : List Byte) : Option Request :=
  match code, args with
  | 0x01, args => some (.assign args)
  | 0x02, t :: i :: entries => some (.loadTable t i entries)
  | 0x03, [t, i, n] => some (.readTable t i n)
  | 0x04, [k, i] => some (.readState k i)
  | 0x05, [] => some .readCounters
  | 0x06, [m] => some (.setMode m)
  | 0x07, [] => some .restart
  | 0x08, [z] => some (.arm z)
  | 0x09, [z] => some (.disarm z)
  | 0x0A, [z] => some (.ackIntrusion z)
  | 0x0B, [d] => some (.ackDoor d)
  | 0x0C, [d] => some (.permit d)
  | 0x0D, [d] => some (.openDoor d)
  | 0x0E, [z] => some (.resetOccupancy z)
  | 0x0F, [z] => some (.resetZone z)
  | 0x10, [z] => some (.startTest z)
  | 0x11, [z] => some (.endTest z)
  | 0x12, [] => some .evacuate
  | 0x13, [] => some .standDown
  | 0x14, [n] => some (.takeCall n)
  | 0x15, [n] => some (.clearCall n)
  | 0x16, [l] => some (.setAttention l)
  | 0x17, [] => some .clearHalt
  | _, _ => none

/-- The request a SET payload carries (R177). The entry bytes of LOAD-TABLE are judged with its table (R166). -/
def readRequest : List Byte → Request
  | [] => .bad []
  | c :: args => (requestOf c.toNat args).getD (.bad (c :: args))

/-- The payload of a request (R177). -/
def Request.payload : Request → List Byte
  | .assign args => 0x01#8 :: args
  | .loadTable t i entries => 0x02#8 :: t :: i :: entries
  | .readTable t i n => [0x03#8, t, i, n]
  | .readState k i => [0x04#8, k, i]
  | .readCounters => [0x05#8]
  | .setMode m => [0x06#8, m]
  | .restart => [0x07#8]
  | .arm z => [0x08#8, z]
  | .disarm z => [0x09#8, z]
  | .ackIntrusion z => [0x0A#8, z]
  | .ackDoor d => [0x0B#8, d]
  | .permit d => [0x0C#8, d]
  | .openDoor d => [0x0D#8, d]
  | .resetOccupancy z => [0x0E#8, z]
  | .resetZone z => [0x0F#8, z]
  | .startTest z => [0x10#8, z]
  | .endTest z => [0x11#8, z]
  | .evacuate => [0x12#8]
  | .standDown => [0x13#8]
  | .takeCall n => [0x14#8, n]
  | .clearCall n => [0x15#8, n]
  | .setAttention l => [0x16#8, l]
  | .clearHalt => [0x17#8]
  | .bad payload => payload

/-! ### Relayed orders (R176) -/

/-- The options and raw bytes of a relayed ORDER: NOTIFY, HALT_ON_FAIL and the bytes after the options byte; `none`
when there are no raw bytes or more than 40 (R144, R176). -/
def readRelay : List Byte → Option (Bool × Bool × List Byte)
  | [] => none
  | o :: raw =>
    if raw = [] ∨ 40 < raw.length then none else some (o.getLsbD 7, o.getLsbD 6, raw)

end Sys2Proof.Machine
end

