-- ==== Sys2Proof/Machine/Ops.lean ====
section
/-! DEFINITION. The named operations every unit shares: slots of tables, timers, counters, notices, answers, output
lines, route-stale, and the reading and writing of one record of each unit. -/

namespace Sys2Proof.Machine

/-! ### Slots -/

/-- The slot of a table, or `d` outside it. -/
def slot {α : Type} {n : Nat} (v : Vector α n) (i : Nat) (d : α) : α := (v[i]?).getD d

/-- A table with one slot replaced; outside it nothing changes. -/
def place {α : Type} {n : Nat} (v : Vector α n) (i : Nat) (x : α) : Vector α n := v.setIfInBounds i x

/-- Device numbers 1 to 126. -/
def deviceNumbers : List Nat := (List.range 127).drop 1

/-- Zone numbers 1 to 24. -/
def zoneNumbers : List Nat := (List.range 25).drop 1

/-- Door numbers 0 to 31. -/
def doorNumbers : List Nat := List.range 32

/-- Sign numbers 0 to 47. -/
def signNumbers : List Nat := List.range 48

/-! ### Part state -/

/-- The part is RUNNING (R162). -/
def State.running (s : State) : Bool := s.mgmt.part == .running

/-- The part's station number, or 31 while it has none (R163). -/
def State.stationNumber (s : State) : BitVec 5 := s.mgmt.station.getD 31#5

/-! ### Loaded entries -/

def State.zoneEntry (s : State) (z : Nat) : ZoneEntry := slot s.mgmt.zones z .cold
def State.deviceEntry (s : State) (d : Nat) : DeviceEntry := slot s.mgmt.devices d .cold
def State.classEntry (s : State) (c : Nat) : ClassEntry := slot s.mgmt.classes c .cold
def State.doorEntry (s : State) (d : Nat) : DoorEntry := slot s.mgmt.doors d .cold
def State.signEntry (s : State) (n : Nat) : SignEntry := slot s.mgmt.signs n .cold

def State.putZoneEntry (s : State) (z : Nat) (e : ZoneEntry) : State :=
  { s with mgmt.zones := place s.mgmt.zones z e }
def State.putDeviceEntry (s : State) (d : Nat) (e : DeviceEntry) : State :=
  { s with mgmt.devices := place s.mgmt.devices d e }
def State.putClassEntry (s : State) (c : Nat) (e : ClassEntry) : State :=
  { s with mgmt.classes := place s.mgmt.classes c e }
def State.putDoorEntry (s : State) (d : Nat) (e : DoorEntry) : State :=
  { s with mgmt.doors := place s.mgmt.doors d e }
def State.putSignEntry (s : State) (n : Nat) (e : SignEntry) : State :=
  { s with mgmt.signs := place s.mgmt.signs n e }

/-! ### Dynamic records -/

def State.device (s : State) (d : Nat) : DeviceRecord := slot s.sup.records d .cold
def State.detector (s : State) (d : Nat) : Option Detector := slot s.det.detectors d none
def State.zoneRecord (s : State) (z : Nat) : ZoneRecord := slot s.zone.zones z .cold
def State.activatedFlag (s : State) (d : Nat) : Bool := slot s.zone.activated d false
def State.doorRecord (s : State) (d : Nat) : DoorRecord := slot s.door.doors d .cold
def State.occupancy (s : State) (z : Nat) : Occupancy := slot s.door.occupancy z ⟨0, 0, 0⟩
def State.guardRecord (s : State) (z : Nat) : GuardRecord := slot s.guard.guards z .cold
def State.motionFlag (s : State) (d : Nat) : Bool := slot s.guard.motion d false
def State.signRecord (s : State) (n : Nat) : SignRecord := slot s.sign.signs n .cold

def State.putDevice (s : State) (d : Nat) (r : DeviceRecord) : State :=
  { s with sup.records := place s.sup.records d r }
def State.putDetector (s : State) (d : Nat) (r : Option Detector) : State :=
  { s with det.detectors := place s.det.detectors d r }
def State.putZone (s : State) (z : Nat) (r : ZoneRecord) : State :=
  { s with zone.zones := place s.zone.zones z r }
def State.putActivated (s : State) (d : Nat) (b : Bool) : State :=
  { s with zone.activated := place s.zone.activated d b }
def State.putDoor (s : State) (d : Nat) (r : DoorRecord) : State :=
  { s with door.doors := place s.door.doors d r }
def State.putOccupancy (s : State) (z : Nat) (o : Occupancy) : State :=
  { s with door.occupancy := place s.door.occupancy z o }
def State.putGuard (s : State) (z : Nat) (r : GuardRecord) : State :=
  { s with guard.guards := place s.guard.guards z r }
def State.putMotion (s : State) (d : Nat) (b : Bool) : State :=
  { s with guard.motion := place s.guard.motion d b }
def State.putSign (s : State) (n : Nat) (r : SignRecord) : State :=
  { s with sign.signs := place s.sign.signs n r }

/-- The trouble cause set of a device. -/
def State.causes (s : State) (d : Nat) : Causes := (s.device d).causes

/-- A device with another trouble cause set. -/
def State.putCauses (s : State) (d : Nat) (c : Causes) : State := s.putDevice d { s.device d with causes := c }

/-- The device is MISSING. -/
def State.missing (s : State) (d : Nat) : Bool := (s.causes d).missing

/-- The detector state of a device, or `none` for a device without a detector record (R8). -/
def State.detectorState (s : State) (d : Nat) : Option DetectorState := (s.detector d).map (·.state)

/-- The fire state of a zone; zone 0 and numbers above 24 have none, and stand DISABLED here (chapter 3). -/
def State.fireState (s : State) (z : Nat) : FireState := (s.zoneRecord z).fire

/-- The device stands enabled with this kind. -/
def State.enabledAs (s : State) (d : Nat) (k : DeviceKind) : Bool :=
  (s.deviceEntry d).enabled && (s.deviceEntry d).kind == some k

/-- The enabled door whose module is a device, if there is one (R65, R140). -/
def State.doorOfModule (s : State) (d : Nat) : Option Nat :=
  doorNumbers.find? fun n => (s.doorEntry n).enabled && (s.doorEntry n).module == d

/-- The enabled sign whose sign device is a device, if there is one (R127, R140). -/
def State.signOfDevice (s : State) (d : Nat) : Option Nat :=
  signNumbers.find? fun n => (s.signEntry n).enabled && (s.signEntry n).device == d

/-- A zone is counted when its entry is enabled and its counted field is yes (R80). -/
def State.counted (s : State) (z : Nat) : Bool := (s.zoneEntry z).enabled && (s.zoneEntry z).counted

/-- The occupancy a notice carries, or the mark that the zone is not counted (R48, R88, R92). -/
def State.occupancyMark (s : State) (z : Nat) : Option Nat :=
  if s.counted z then some (s.occupancy z).count else none

/-! ### Timers -/

/-- A number of seconds in ticks. -/
def seconds (n : Nat) : Nat := n * Config.ticksPerSecond

/-- A timer of a number of seconds, started now. -/
def State.timer (s : State) (secs : Nat) : Option Timer := some ⟨s.clock, seconds secs⟩

/-- The timer has reached its length. -/
def Timer.due (t : Timer) (clock : Nat) : Bool := t.start + t.len ≤ clock

/-- Ticks written in whole units of so many ticks; a remainder is rounded by the free value (log 5). -/
def inUnits (ticks unit : Nat) : Nat :=
  if ticks % unit = 0 then ticks / unit
  else if Config.roundsTimeUp ticks unit then ticks / unit + 1 else ticks / unit

/-- The time left on a running timer, in units of so many seconds. -/
def Timer.left (t : Timer) (clock unitSeconds : Nat) : Nat := inUnits (t.start + t.len - clock) (seconds unitSeconds)

/-! ### Counters (R160) -/

/-- The place of a counter in the order of R160. -/
def Counter.index : Counter → Nat
  | .badFrameU => 0
  | .badFrameD => 1
  | .badFrameF => 2
  | .tooLongU => 3
  | .tooLongD => 4
  | .tooLongF => 5
  | .hopExpired => 6
  | .passDroppedUp => 7
  | .passDroppedDown => 8
  | .noticesDropped => 9
  | .ordersFailed => 10
  | .ordersDenied => 11
  | .ordersSkipped => 12
  | .callsLost => 13
  | .unknownDevice => 14
  | .requestsDroppedU => 15
  | .requestsDroppedD => 16

/-- The value of a counter. -/
def State.counter (s : State) (c : Counter) : Nat := slot s.port.counters c.index 0

/-- A value counted further, holding at a top value. -/
def countUp (top n : Nat) : Nat := if n < top then n + 1 else n

/-- A counter of the Port Unit counts an event; at 65535 it holds (R160). -/
def PortUnit.count (p : PortUnit) (c : Counter) : PortUnit :=
  { p with counters := place p.counters c.index (countUp Config.counterTop (slot p.counters c.index 0)) }

/-- Counts an event (R160). -/
def State.count (s : State) (c : Counter) : State := { s with port := s.port.count c }

/-- BAD_FRAME of a backbone port. -/
def badFrameCounter : BackbonePort → Counter
  | .u => .badFrameU
  | .d => .badFrameD

/-- TOO_LONG of a backbone port. -/
def tooLongCounter : BackbonePort → Counter
  | .u => .tooLongU
  | .d => .tooLongD

/-- REQUESTS_DROPPED of a backbone port. -/
def requestsDroppedCounter : BackbonePort → Counter
  | .u => .requestsDroppedU
  | .d => .requestsDroppedD

/-! ### Notices (R153) -/

/-- The priority of a notice, the high digit of its code (R153, chapter 11); a watch copy has priority 3 (R159). -/
def Notice.priority : Notice → Nat
  | .fireAlert .. => 0
  | .fireAlarm .. => 0
  | .alertUnconfirmed .. => 0
  | .fireReset .. => 0
  | .evacOn .. => 0
  | .evacOff => 0
  | .noRoute .. => 0
  | .doorForced .. => 1
  | .doorHeld .. => 1
  | .doorPropped .. => 1
  | .doorClosed .. => 1
  | .zoneArmed .. => 1
  | .armFailed .. => 1
  | .entryStart .. => 1
  | .intrusion .. => 1
  | .zoneDisarmed .. => 1
  | .presence .. => 1
  | .callOffer .. => 2
  | .callWithdrawn .. => 2
  | .callDropped .. => 2
  | .repeatPress .. => 2
  | .callUnanswered .. => 2
  | .trouble .. => 3
  | .detectorPre .. => 3
  | .testStart .. => 3
  | .testPass .. => 3
  | .testEnd .. => 3
  | .doorFault .. => 3
  | .doorRestored .. => 3
  | .occupancyClamp .. => 3
  | .signOut .. => 3
  | .signRestored .. => 3
  | .orderDone .. => 3
  | .orderFailed .. => 3
  | .linkStandalone .. => 3
  | .linkOnline .. => 3
  | .watchCopy .. => 3

/-- CALL-UNANSWERED alone is broadcast (R112, R153). -/
def Notice.broadcast : Notice → Bool
  | .callUnanswered .. => true
  | _ => false

/-- A new entry of the notice queue: a broadcast entry is owed on both ports, any other on U (R153). -/
def Notice.entry (n : Notice) : NoticeEntry := ⟨n, true, n.broadcast⟩

/-- A list without the last of its members that satisfy a test. -/
def eraseLast {α : Type} (p : α → Bool) (l : List α) : List α := (l.reverse.eraseP p).reverse

/-- The number of the lowest priority present in a queue (R153). -/
def lowestPriority (q : List NoticeEntry) : Nat := q.foldl (fun (n : Nat) (e : NoticeEntry) => max n e.notice.priority) 0

/-- A notice joins the notice queue as its youngest entry; a full queue loses its youngest entry of the lowest priority
if that is below the newcomer's, and the newcomer otherwise (R153). -/
def PortUnit.notify (p : PortUnit) (n : Notice) : PortUnit :=
  let q := p.notices
  if q.length < Config.noticeCapacity then { p with notices := q ++ [n.entry] }
  else if n.priority < lowestPriority q then
    PortUnit.count { p with notices := eraseLast (fun e => e.notice.priority == lowestPriority q) q ++ [n.entry] }
      .noticesDropped
  else p.count .noticesDropped

/-- Sends a notice (R153). -/
def State.notify (s : State) (n : Notice) : State := { s with port := s.port.notify n }

/-! ### Answers (R152) -/

/-- The answer queue of a backbone port. -/
def State.answers (s : State) : BackbonePort → AnswerQueue
  | .u => s.port.answersU
  | .d => s.port.answersD

/-- The Port Unit with another answer queue of a backbone port. -/
def PortUnit.putAnswers (x : PortUnit) (p : BackbonePort) (q : AnswerQueue) : PortUnit :=
  match p with
  | .u => { x with answersU := q }
  | .d => { x with answersD := q }

/-- The state with another answer queue of a backbone port. -/
def State.putAnswers (s : State) (p : BackbonePort) (q : AnswerQueue) : State :=
  { s with port := s.port.putAnswers p q }

/-- Entries of an answer queue, reserved or ready. -/
def AnswerQueue.size (q : AnswerQueue) : Nat := q.reserved.length + q.ready.length

/-- A port has room for an answer (R152). -/
def State.answerRoom (s : State) (p : BackbonePort) : Bool := (s.answers p).size < Config.answerCapacity

/-- Reserves an entry of a port's answer queue (R152). -/
def State.reserve (s : State) (p : BackbonePort) (r : Reservation) : State :=
  s.putAnswers p { s.answers p with reserved := r :: (s.answers p).reserved }

/-- The ANSWER frame to a request from a station and device (R152). -/
def answerFrame (own station : BitVec 5) (device : BitVec 7) (tag : Byte) (payload : List Byte) : Frame where
  destStation := station
  destDevice := device
  srcStation := own
  srcDevice := 0#7
  kind := .answer
  hop := 15#4
  tag := tag
  payload := payload

/-- Fills a reserved entry with its ANSWER, which becomes the youngest ready entry (R152). -/
def State.fill (s : State) (p : BackbonePort) (r : Reservation) (f : Frame) : State :=
  let q := s.answers p
  s.putAnswers p ⟨q.reserved.erase r, q.ready ++ [f]⟩

/-! ### Output lines -/

/-- A frame joins a line: its send begins when the line is free, and each byte and the gap after the frame take their
time (chapter 11, electrical summary). -/
def joinLine (line : List Sending) (clock byteTicks : Nat) (f : Frame) : List Sending :=
  let free := line.foldl (fun (t : Nat) (x : Sending) => max t x.endsAt) clock
  line ++ [⟨f, free + (8 + f.payload.length + Config.gapBytes) * byteTicks⟩]

/-- A frame is sent on the field port (R147). -/
def State.sendField (s : State) (f : Frame) : State :=
  { s with port.lineF := joinLine s.port.lineF s.clock Config.fieldByteTicks f }

/-! ### Route-stale (R55, R121) -/

/-- Sets route-stale; a setting that comes while a pass runs sets the repeat mark too (R121). -/
def State.setStale (s : State) : State :=
  { s with zone.routeStale := true, sign.repeatMark := s.sign.repeatMark || s.sign.pass.isSome }

/-- A pass begins when route-stale is set, the part is RUNNING and no pass is running (R121). Every command ends with
it: the settings made within one command come before the pass begins (DESIGN CHOICE, log 11). -/
def State.beginPass (s : State) : State :=
  if s.zone.routeStale && s.running && s.sign.pass.isNone then
    { s with sign.pass := some 0, sign.repeatMark := false }
  else s

/-- The answer of a command that gives a state; a pass over the signs begins if one is due (R121). -/
def proceed (s : State) : Host.Outcome State Fault Refusal := .next s.beginPass

end Sys2Proof.Machine
end

