-- ==== Sys2Proof/Machine/Flags.lean ====
section
/-! DEFINITION. The trouble cause sets and the TROUBLE notice (R7, R8), and what a device's normal state is (R159). -/

namespace Sys2Proof.Machine

/-- Sends the TROUBLE notice of a device with its cause set and detector state as they stand (R8). -/
def State.tellTrouble (s : State) (d : Nat) : State :=
  s.notify (.trouble d (s.deviceEntry d).kind (s.deviceEntry d).zone (s.causes d) (s.detectorState d))

/-- Gives a device a cause set and sends one TROUBLE notice if that changes it (R8). -/
def State.changeCauses (s : State) (d : Nat) (c : Causes) : State :=
  if c = s.causes d then s else (s.putCauses d c).tellTrouble d

/-- The zone's trouble count: its enabled devices whose cause set is not empty (R7). -/
def State.troubleCount (s : State) (z : Nat) : Nat :=
  (deviceNumbers.filter fun d =>
    (s.deviceEntry d).enabled && (s.deviceEntry d).zone == z && s.causes d != .empty).length

/-- A device is not in its normal state: its cause set is not empty, or it is a detector that is not QUIET, the module
of a door in FORCED, FAULT or PROPPED, or the device of a sign in FAULT (R159). -/
def State.abnormal (s : State) (d : Nat) : Bool :=
  s.causes d != .empty
    || (match s.detectorState d with
        | some st => st != .quiet
        | none => false)
    || (match s.doorOfModule d with
        | some n =>
          let st := (s.doorRecord n).state
          st == some .forced || st == some .fault || st == some .propped
        | none => false)
    || (match s.signOfDevice d with
        | some n => (s.signRecord n).fault
        | none => false)

end Sys2Proof.Machine
end

