-- ==== Sys2Proof/Machine/Orders.lean ====
section
/-! DEFINITION. The Order Unit (chapter 8): the pool and its limits, requests and replacement in place, owed objects
and their service, sends. Confirmation and failure, which tell the other units, stand in Outcomes.lean. -/

namespace Sys2Proof.Machine

/-! ### The pool (R133, R134) -/

/-- Families of order codes (R133). -/
inductive Family where
  | lock | magnet | pulse | display | lamp | raw
deriving DecidableEq, Repr

/-- The family of an order code (R133). -/
def OrderCode.family : OrderCode → Family
  | .lock => .lock
  | .unlock => .lock
  | .pulse _ => .pulse
  | .hold => .magnet
  | .release => .magnet
  | .display _ => .display
  | .lamp _ => .lamp
  | .raw _ => .raw

/-- Records of a class in a pool. -/
def classCount (pool : List OrderRecord) (cls : Nat) : Nat := (pool.filter (·.cls == cls)).length

/-- A record may be taken for a class (R134). -/
def roomFor (pool : List OrderRecord) (cls : Nat) : Bool :=
  pool.length < Config.poolCapacity
    && (cls == 0 || classCount pool 1 + classCount pool 2 < Config.lowerClassCapacity)
    && (cls != 2 || classCount pool 2 < Config.class2Capacity)

/-- A record joins the chain at the tail of its class (R134, R135). -/
def insertTail (r : OrderRecord) : List OrderRecord → List OrderRecord
  | [] => [r]
  | x :: rest => if r.cls < x.cls then r :: x :: rest else x :: insertTail r rest

/-- An internal request (R135). -/
structure OrderRequest where
  target : Nat
  code : OrderCode
  cls : Nat
  notify : Bool
deriving DecidableEq, Repr

/-- The new record of a request: tag none and attempts 0 (R135). -/
def OrderRequest.record (q : OrderRequest) : OrderRecord :=
  ⟨q.target, q.code, q.cls, none, 0, q.notify, false, .internal, false⟩

/-- The record waits for the request's target in the request's family (R135, step 2). -/
def OrderRequest.finds (q : OrderRequest) (r : OrderRecord) : Bool :=
  !r.inFlight && r.target == q.target && r.code.family == q.code.family

/-- The first member of a list that satisfies a test, replaced. -/
def replaceFirst {α : Type} (p : α → Bool) (y : α) : List α → List α
  | [] => []
  | x :: rest => if p x then y :: rest else x :: replaceFirst p y rest

/-- A waiting record brought up to date by a request, and whether it rose into class 0 (R136). -/
def bringUpToDate (q : OrderRequest) (r : OrderRecord) (pool : List OrderRecord) : List OrderRecord × Bool :=
  let updated := { r with code := q.code, notify := q.notify || r.notify }
  let others := pool.eraseP q.finds
  if q.cls < r.cls then (insertTail { updated with cls := q.cls } others, q.cls == 0)
  else if r.cls < q.cls && roomFor others q.cls then (insertTail { updated with cls := q.cls } others, false)
  else (replaceFirst q.finds updated pool, false)

/-- A request taken by steps 2 and 3 of R135: the pool with its record, and whether a waiting record rose into class 0;
`none` when no record may be taken. -/
def takeRequest (q : OrderRequest) (pool : List OrderRecord) : Option (List OrderRecord × Bool) :=
  match pool.find? q.finds with
  | some r => some (bringUpToDate q r pool)
  | none => if roomFor pool q.cls then some (insertTail q.record pool, false) else none

/-- The state with another pool. -/
def State.putPool (s : State) (pool : List OrderRecord) : State := { s with order.pool := pool }

/-- The record in flight (R139). -/
def State.inFlight (s : State) : Option OrderRecord := s.order.pool.find? (·.inFlight)

/-! ### Sends (R139) -/

/-- Every record is sendable except a class 2 record while the class 2 halt stands (R139, R143). -/
def sendable (halt : Bool) (r : OrderRecord) : Bool := !(halt && r.cls == 2)

/-- A record in flight, with a tag given if it had none (R139). -/
def OrderRecord.launched (r : OrderRecord) (tag : Nat) : OrderRecord :=
  { r with tag := some (r.tag.getD tag), inFlight := true }

/-- The first sendable record of a chain goes into flight: the record as it waited, and the chain with it in flight
(R139). -/
def launch (halt : Bool) (tag : Nat) : List OrderRecord → Option (OrderRecord × List OrderRecord)
  | [] => none
  | r :: rest =>
    if sendable halt r then some (r, r.launched tag :: rest)
    else (launch halt tag rest).map fun x => (x.1, r :: x.2)

/-- The tag counter moves on by one, from 255 back to 1 (R139). -/
def nextTag (t : Nat) : Nat := if t < 255 then t + 1 else 1

/-- The ORDER frame of a record on the field port (R133). -/
def orderFrame (own : BitVec 5) (r : OrderRecord) : Frame where
  destStation := own
  destDevice := BitVec.ofNat 7 r.target
  srcStation := own
  srcDevice := 0#7
  kind := .order
  hop := 0#4
  tag := BitVec.ofNat 8 (r.tag.getD 0)
  payload := r.code.payload

/-- The confirmation timer, started now (R139). -/
def State.confirmation (s : State) : Option Timer := some ⟨s.clock, Config.confirmationTicks⟩

/-- Looks for a send: with nothing in flight, the first sendable record is sent and the confirmation timer starts; the tag
counter moves on when it gives the record its tag (R139). -/
def State.lookForSend (s : State) : State :=
  if s.inFlight.isSome then s
  else
    match launch s.order.halt s.order.tagCounter s.order.pool with
    | none => s
    | some (r, pool) =>
      { s with
        order.pool := pool
        order.confirmTimer := s.confirmation
        order.tagCounter := if r.tag.isNone then nextTag s.order.tagCounter else s.order.tagCounter
      }.sendField (orderFrame s.stationNumber (r.launched s.order.tagCounter))

/-! ### Owed objects (R137) -/

/-- The order code of a door setting. -/
def Setting.order : Setting → OrderCode
  | .lock => .lock
  | .unlock => .unlock
  | .hold => .hold
  | .release => .release

/-- The class of a door order: 0 with desired cause FIRE and 1 with cause SCHEDULE (R62). -/
def DesiredCause.orderClass : DesiredCause → Nat
  | .fire => 0
  | .schedule => 1

/-- The request for a door's present need (R62, R137). An internal record has NOTIFY set when its class is 0 (R133). -/
def State.doorNeed (s : State) (d : Nat) : OrderRequest :=
  let r := s.doorRecord d
  ⟨(s.doorEntry d).module, r.desired.order, r.cause.orderClass, r.cause.orderClass == 0⟩

/-- The class of a SHOW order: 0 with the evacuation flag set and 1 with it clear (R124). -/
def State.showClass (s : State) : Nat := if s.zone.evacuation then 0 else 1

/-- The request for a sign's present need (R124, R125, R137). -/
def State.signNeed (s : State) (n : Nat) : OrderRequest :=
  ⟨(s.signEntry n).device, .display ((s.signRecord n).desired.getD .dark), s.showClass, s.showClass == 0⟩

/-- A door with its owed mark set or clear. -/
def State.owe (s : State) (d : Nat) (b : Bool) : State := s.putDoor d { s.doorRecord d with owed := b }

/-- A sign with its owed mark set or clear. -/
def State.oweSign (s : State) (n : Nat) (b : Bool) : State := s.putSign n { s.signRecord n with owed := b }

/-- The visit of a service to one door, and whether a waiting record rose into class 0 (R137). -/
def serveDoor (s : State) (d : Nat) : State × Bool :=
  if !(s.doorRecord d).owed then (s, false)
  else if !(s.doorEntry d).enabled then (s.owe d false, false)
  else if s.missing (s.doorEntry d).module then (s, false)
  else
    match takeRequest (s.doorNeed d) s.order.pool with
    | some (pool, rose) => ((s.putPool pool).owe d false, rose)
    | none => (s, false)

/-- The visit of a service to one sign, and whether a waiting record rose into class 0 (R137). -/
def serveSign (s : State) (n : Nat) : State × Bool :=
  if !(s.signRecord n).owed then (s, false)
  else if !(s.signEntry n).enabled then (s.oweSign n false, false)
  else if s.missing (s.signEntry n).device then (s, false)
  else
    match takeRequest (s.signNeed n) s.order.pool with
    | some (pool, rose) => ((s.putPool pool).oweSign n false, rose)
    | none => (s, false)

/-- One round of a service: doors 0 to 31, then signs 0 to 47 (R137). -/
def serveRound (s : State) : State × Bool :=
  let afterDoors := doorNumbers.foldl (fun x d => let y := serveDoor x.1 d; (y.1, x.2 || y.2)) (s, false)
  signNumbers.foldl (fun x n => let y := serveSign x.1 n; (y.1, x.2 || y.2)) afterDoors

/-- Rounds of service: a rise into class 0 within a round is an event that calls for another (R137). Each rise clears
an owed mark, so as many rounds as there are objects suffice. -/
def serveRounds : Nat → State → State
  | 0, s => s
  | k + 1, s =>
    let x := serveRound s
    if x.2 then serveRounds k x.1 else x.1

/-- A service of owed objects (R137). A rise within it is served by a further round when the round has ended (DESIGN
CHOICE, log 12). -/
def State.service (s : State) : State := serveRounds 81 s

/-- A service, and then a look for a send (R140, R142, R171, R173). -/
def State.serve (s : State) : State := s.service.lookForSend

/-! ### Requests (R135) -/

/-- A request taken or not by steps 2 to 4 of R135. A taken one is followed by a service if a waiting record rose into
class 0 (R137), and by a look for a send (R139). -/
def State.request (s : State) (q : OrderRequest) : State × Bool :=
  match takeRequest q s.order.pool with
  | some (pool, rose) =>
    let s' := s.putPool pool
    (if rose then s'.serve else s'.lookForSend, true)
  | none => (s, false)

/-- The Door Unit requests an order for a door's desired setting (R62): an owed door's request is taken as its service,
which leaves it owed and calls for no send when it makes no record (R135, step 1), and a door whose request finds no
record is marked owed, which calls for a service (R137). -/
def State.requestDoor (s : State) (d : Nat) : State :=
  if (s.doorRecord d).owed then
    let x := serveDoor s d
    if x.2 then x.1.serve else if (x.1.doorRecord d).owed then x.1 else x.1.lookForSend
  else
    let x := s.request (s.doorNeed d)
    if x.2 then x.1 else (x.1.owe d true).serve

/-- The Sign Unit requests a SHOW order for a sign's desired display (R124): an owed sign's request is taken as its
service (R135, step 1), and a sign whose request finds no record is marked owed, which calls for a service (R137). -/
def State.requestSign (s : State) (n : Nat) : State :=
  if (s.signRecord n).owed then
    let x := serveSign s n
    if x.2 then x.1.serve else if (x.1.signRecord n).owed then x.1 else x.1.lookForSend
  else
    let x := s.request (s.signNeed n)
    if x.2 then x.1 else (x.1.oweSign n true).serve

/-- The Call Unit requests a class 1 LAMP order; one that finds no record is skipped and counted (R104, R138). -/
def State.requestLamp (s : State) (point : Nat) (l : LampState) : State :=
  let x := s.request ⟨point, .lamp l, 1, false⟩
  if x.2 then x.1 else x.1.count .ordersSkipped

/-- The Door Unit requests a PULSE with the exit pulse time in force: class 0 for an exit request (R68), class 1 with
NOTIFY for OPEN-DOOR (R75, R133). A request that finds no record is counted (R138). -/
def State.requestPulse (s : State) (d cls : Nat) : State × Bool :=
  let x := s.request ⟨(s.doorEntry d).module, .pulse s.mgmt.wing.pulseTime, cls, true⟩
  if x.2 then x else (x.1.count .ordersSkipped, false)

/-- A record waits, or is in flight, for a target in a family. -/
def State.waitingFor (s : State) (target : Nat) (f : Family) : Option OrderRecord :=
  s.order.pool.find? fun r => !r.inFlight && r.target == target && r.code.family == f

def State.flyingFor (s : State) (target : Nat) (f : Family) : Option OrderRecord :=
  s.order.pool.find? fun r => r.inFlight && r.target == target && r.code.family == f

end Sys2Proof.Machine
end

