-- ==== Sys2Proof/Machine/Doors.lean ====
section
/-! DEFINITION. The Door Unit (chapter 4): release demands, desired settings, settled states, contacts, exit pulses,
held and forced doors, faults, passability and occupancy. -/

namespace Sys2Proof.Machine

/-! ### Release demands (R56, R61) -/

/-- The release demand of a zone, from its fire state (R56). -/
def FireState.demand : FireState → Demand
  | .disabled => .none
  | .normal => .none
  | .alert => .compartment
  | .alarm => .full
  | .test => .none

/-- The demand of a door's side: that of its zone, and NONE in zone 0 (R61). -/
def State.sideDemand (s : State) (z : Nat) : Demand := if z = 0 then .none else (s.fireState z).demand

/-- The higher of two demands (R61). -/
def Demand.higher (a b : Demand) : Demand := if a.code < b.code then b else a

/-- The demand of a door (R61). -/
def State.doorDemand (s : State) (d : Nat) : Demand :=
  (s.sideDemand (s.doorEntry d).sideA).higher (s.sideDemand (s.doorEntry d).sideB)

/-- The desired setting of a door and its cause, from its kind and fire-release flag, its demand and the wing mode
(R61). -/
def desiredSetting (kind : DoorKind) (fireRelease : Bool) (demand : Demand) (mode : WingMode) :
    Setting × DesiredCause :=
  let schedule := match kind, mode with
    | .egress, .day => Setting.unlock
    | .egress, .night => .lock
    | .secure, .day => .unlock
    | .secure, .night => .lock
    | .fire, .day => .hold
    | .fire, .night => .release
    | .strongroom, _ => .lock
  match kind with
  | .egress => if demand = .full then (.unlock, .fire) else (schedule, .schedule)
  | .secure => if demand = .full ∧ fireRelease then (.unlock, .fire) else (schedule, .schedule)
  | .fire => if demand = .none then (schedule, .schedule) else (.release, .fire)
  | .strongroom => (schedule, .schedule)

/-- The desired setting of a door as it stands now (R61). -/
def State.desiredOf (s : State) (d : Nat) : Setting × DesiredCause :=
  desiredSetting (s.doorEntry d).kind (s.doorEntry d).fireRelease (s.doorDemand d) s.mgmt.mode

/-- A door with its desired setting worked out and kept, and nothing requested. -/
def State.keepDesired (s : State) (d : Nat) : State :=
  s.putDoor d { s.doorRecord d with desired := (s.desiredOf d).1, cause := (s.desiredOf d).2 }

/-! ### Passability (R78) -/

/-- A door of this kind is passable in this state (R78). -/
def passableIn (kind : DoorKind) (state : DoorState) : Bool :=
  match kind with
  | .fire => true
  | .egress => state != .secured && state != .ajar
  | .secure => state != .secured && state != .ajar && state != .fault
  | .strongroom => false

/-- A door is passable (R78). -/
def State.passable (s : State) (d : Nat) : Bool :=
  (s.doorEntry d).enabled
    && (match (s.doorRecord d).state with
        | some st => passableIn (s.doorEntry d).kind st
        | none => false)

/-- Sets route-stale if a door's passability differs from what it was in an earlier state (R78). -/
def State.staleIfPassabilityChanged (s old : State) (d : Nat) : State :=
  if s.passable d = old.passable d then s else s.setStale

/-! ### Door states (R63, R68, R69) -/

/-- The record of a door that takes another state: leaving SECURED closes its pulse window and stops the pulse timer
(R68), the held timer starts on entry to OPEN_AUTH and stops on leaving it (R69). -/
def DoorRecord.enter (r : DoorRecord) (new : DoorState) (clock : Nat) (heldB : Nat) : DoorRecord :=
  { r with
    state := some new
    window := if r.state = some .secured then .closed else r.window
    pulseTimer := if r.state = some .secured then none else r.pulseTimer
    heldTimer := if new = .openAuth then some ⟨clock, seconds heldB⟩ else none
    heldReached := false }

/-- Sends DOOR-HELD with an elapsed time, once per run of the held timer (R69). -/
def State.reachHeldA (s : State) (d elapsed : Nat) : State :=
  (s.putDoor d { s.doorRecord d with heldReached := true }).notify
    (.doorHeld d (s.doorEntry d).sideA (s.doorEntry d).sideB elapsed)

/-- A door takes a state. A state that differs is a state change: its effects on the pulse window, the held timer and
passability follow (R63), and compare A of 0 is reached on entry to OPEN_AUTH (R69). -/
def State.enterDoor (s : State) (d : Nat) (new : DoorState) : State :=
  if (s.doorRecord d).state = some new then s
  else
    let s' := s.putDoor d ((s.doorRecord d).enter new s.clock (s.doorEntry d).heldB)
    let s' := s'.staleIfPassabilityChanged s d
    if new = .openAuth ∧ (s.doorEntry d).heldA = 0 ∧ 0 < (s.doorEntry d).heldB then s'.reachHeldA d 0 else s'

/-- The settled state of a door (R63). -/
def settledState (r : DoorRecord) : DoorState :=
  match r.commanded.getD r.desired with
  | .unlock =>
    if r.desired = .unlock ∧ r.cause = .fire then .released
    else if r.latch then .forced
    else .free
  | .lock =>
    if r.state = some .openAuth then .openAuth
    else if r.state = some .propped then .propped
    else if r.latch then .forced
    else if r.contact = some .open then .ajar
    else .secured
  | .hold => .held
  | .release => .shut

/-- A door takes its settled state (R63). -/
def State.settle (s : State) (d : Nat) : State := s.enterDoor d (settledState (s.doorRecord d))

/-! ### Acting on a desired setting (R62) -/

/-- An order for a door's lock or magnet is waiting, or the door is owed (R62). -/
def State.settingWaitingOrOwed (s : State) (d : Nat) : Bool :=
  (s.doorRecord d).owed || (s.waitingFor (s.doorEntry d).module .lock).isSome
    || (s.waitingFor (s.doorEntry d).module .magnet).isSome

/-- What the Door Unit does in RUNNING with a desired setting it has worked out (R62). -/
def State.actOnDesired (s : State) (d : Nat) : State :=
  let r := s.doorRecord d
  if r.state = some .fault then s
  else if r.commanded ≠ some r.desired then s.requestDoor d
  else
    let s' := if s.settingWaitingOrOwed d then s.requestDoor d else s
    s'.settle d

/-- The desired setting of one enabled door is worked out again; one that comes out the same with the same cause
changes nothing (R61, R62). -/
def State.workOut (s : State) (d : Nat) : State :=
  let r := s.doorRecord d
  if !(s.doorEntry d).enabled || s.desiredOf d == (r.desired, r.cause) then s
  else
    let s' := s.keepDesired d
    if s.running then s'.actOnDesired d else s'

/-- The desired settings of all enabled doors are worked out again (R61), in door order: so the worked sequence of
chapter 8 has it for a change of the wing mode, and a change of demand is taken in the same way (DEDUCED, log 46). -/
def State.workOutAll (s : State) : State := doorNumbers.foldl State.workOut s

/-! ### Faults (R76) -/

/-- An enabled door enters FAULT, or a door already there records the newer cause (R76). -/
def State.faultDoor (s : State) (d : Nat) (cause : FaultCause) : State :=
  let r := s.doorRecord d
  if r.state = some .fault then s.putDoor d { r with fault := some cause }
  else
    let r' := { r with
      state := some .fault
      heldTimer := none
      heldReached := false
      window := .closed
      pulseTimer := none
      fault := some cause }
    (s.putDoor d r').notify (.doorFault d (s.doorEntry d).module cause) |>.staleIfPassabilityChanged s d

/-! ### Occupancy (R80, R81) -/

/-- A clamp counter raised by an excess, saturating at 255 (R80). -/
def clampCount (n excess : Nat) : Nat := min 255 (n + excess)

/-- People leave a zone (R81, step 1). -/
def State.leaveZone (s : State) (z c : Nat) : State :=
  if z = 0 ∨ !s.counted z ∨ c = 0 then s
  else
    let o := s.occupancy z
    if c ≤ o.count then s.putOccupancy z { o with count := o.count - c }
    else (s.putOccupancy z { o with count := 0, undercount := clampCount o.undercount (c - o.count) }).notify
      (.occupancyClamp z false (c - o.count))

/-- People join a zone (R81, step 2). -/
def State.joinZone (s : State) (z c : Nat) : State :=
  if z = 0 ∨ !s.counted z ∨ c = 0 then s
  else
    let o := s.occupancy z
    if o.count + c ≤ 4095 then s.putOccupancy z { o with count := o.count + c }
    else (s.putOccupancy z { o with count := 4095, overcount := clampCount o.overcount (o.count + c - 4095) }).notify
      (.occupancyClamp z true (o.count + c - 4095))

/-- A report's passage counts are applied: the A→B count, then the B→A count (R81). -/
def State.passages (s : State) (d ab ba : Nat) : State :=
  let e := s.doorEntry d
  let s1 := (s.leaveZone e.sideA ab).joinZone e.sideB ab
  (s1.leaveZone e.sideB ba).joinZone e.sideA ba

/-! ### Door reports (R65 to R70) -/

/-- A closing (R66). -/
def State.closeDoor (s : State) (d : Nat) : State :=
  match (s.doorRecord d).state with
  | some .ajar => s.enterDoor d .secured
  | some .openAuth => s.enterDoor d .secured
  | some .propped =>
    (s.enterDoor d .secured).notify (.doorClosed d (s.doorEntry d).sideA (s.doorEntry d).sideB)
  | _ => s

/-- A SECURED door whose pulse window is CLOSED is forced (R70). -/
def State.forceDoor (s : State) (d : Nat) : State :=
  let s' := s.putDoor d { s.doorRecord d with latch := true }
  let e := s.doorEntry d
  (s'.enterDoor d .forced).notify (.doorForced d e.kind e.sideA e.sideB s.mgmt.mode)

/-- An opening (R67). -/
def State.openDoor (s : State) (d : Nat) : State :=
  if (s.doorRecord d).state ≠ some .secured then s
  else if (s.doorRecord d).window = .closed then s.forceDoor d
  else s.enterDoor d .openAuth

/-- An exit request asks for a PULSE (R68). -/
def State.exitRequest (s : State) (d : Nat) : State :=
  let r := s.doorRecord d
  let k := (s.doorEntry d).kind
  if (k = .egress ∨ k = .secure) ∧ r.state = some .secured ∧ r.desired = .lock ∧ r.window = .closed then
    let x := s.requestPulse d 0
    if x.2 then x.1.putDoor d { x.1.doorRecord d with window := .pending } else x.1
  else s

/-- What a DOOR report says of its door's lock: code 1 is LOCKED or HELD, code 2 UNLOCKED or FREE (R3, R176). -/
def lockFeedback (kind : DoorKind) (locked : Bool) : LockFeedback :=
  match kind, locked with
  | .fire, true => .held
  | .fire, false => .free
  | _, true => .locked
  | _, false => .unlocked

/-- The events of one report that the Guard Unit is told (R79): an opening, an entry to FORCED, an exit request and
the tamper flag. -/
structure DoorEvents where
  opening : Bool
  forced : Bool
  exit : Bool
  tamper : Bool
deriving DecidableEq, Repr

/-- A report is an opening: its contact is OPEN while the last was CLOSED or NONE (R65). -/
def isOpening (r : DoorRecord) (q : DoorReport) : Bool := q.contact == .open && r.contact != some .open

/-- A report is a closing: its contact is CLOSED while the last was OPEN (R65). -/
def isClosing (r : DoorRecord) (q : DoorReport) : Bool := q.contact == .closed && r.contact == some .open

/-- Steps 1 to 4 of R65, and the events of the report for step 5. -/
def State.applyDoorReport (s : State) (d : Nat) (q : DoorReport) : State × DoorEvents :=
  let r := s.doorRecord d
  let s1 := if isClosing r q then s.closeDoor d else if isOpening r q then s.openDoor d else s
  let forced := isOpening r q && r.state == some .secured && (s1.doorRecord d).state == some .forced
  let s2 := s1.putDoor d { s1.doorRecord d with
    contact := some q.contact
    feedback := some (lockFeedback (s.doorEntry d).kind q.locked) }
  let exit := q.exit && !r.exitFlag
  let s3 := if exit then s2.exitRequest d else s2
  let s3 := s3.putDoor d { s3.doorRecord d with exitFlag := q.exit }
  (s3.passages d q.ab q.ba, ⟨isOpening r q, forced, exit, q.tamper⟩)

/-! ### Outcomes of orders to a door (R64, R68) -/

/-- A door that was in FAULT leaves it: DOOR-RESTORED is sent (R64, step 1). The state itself is taken by the settling
that follows. -/
def State.restoreDoor (s : State) (d : Nat) : State :=
  if (s.doorRecord d).state = some .fault then
    (s.putDoor d { s.doorRecord d with fault := none }).notify (.doorRestored d (s.doorEntry d).module)
  else s

/-- The Door Unit requests a further order if the desired setting differs from the commanded one and the door is not
in FAULT (R62, R64). -/
def State.requestIfDiffers (s : State) (d : Nat) : State :=
  let r := s.doorRecord d
  if r.state = some .fault ∨ r.commanded = some r.desired then s else s.requestDoor d

/-- A pulse window that a confirmation of another order closes (R68). -/
def State.closePending (s : State) (d : Nat) : State :=
  if (s.doorRecord d).window = .pending then s.putDoor d { s.doorRecord d with window := .closed } else s

/-- A confirmed LOCK, UNLOCK, HOLD or RELEASE (R64). -/
def State.settingConfirmed (s : State) (d : Nat) (v : Setting) : State :=
  let s1 := (s.putDoor d { s.doorRecord d with commanded := some v }).closePending d
  ((s1.restoreDoor d).settle d).requestIfDiffers d

/-- The pulse window of a door at a confirmed PULSE (R68). -/
def State.movePulse (s : State) (d : Nat) : State :=
  let r := s.doorRecord d
  let opened := { r with window := .open, pulseTimer := s.timer s.mgmt.wing.pulseTime }
  match r.window with
  | .pending => s.putDoor d opened
  | .closed => if r.state = some .secured then s.putDoor d opened else s
  | .open => s

/-- A confirmed PULSE: it takes a door out of FAULT, moves the pulse window, and leaves the commanded setting (R64). -/
def State.pulseConfirmed (s : State) (d : Nat) : State :=
  let s1 := if (s.doorRecord d).state = some .fault then (s.restoreDoor d).settle d else s
  (s1.movePulse d).requestIfDiffers d

end Sys2Proof.Machine
end

