-- ==== Sys2Proof/Machine/Guard.lean ====
section
/-! DEFINITION. The Guard Unit (chapter 5): arming checks, sources of intrusion, leaving guarded states. -/

namespace Sys2Proof.Machine

/-! ### Arming (R86, R88) -/

/-- A door holds a zone's arming: it is enabled with a side in the zone, and its last contact is OPEN or NONE or it is
in AJAR, PROPPED or FORCED (R86, check 3). -/
def State.holdsArming (s : State) (z d : Nat) : Bool :=
  let e := s.doorEntry d
  let r := s.doorRecord d
  e.enabled && (e.sideA == z || e.sideB == z)
    && (r.contact != some .closed || r.state == some .ajar || r.state == some .propped || r.state == some .forced)

/-- The first door in rising door number that holds a zone's arming (R87). -/
def State.firstOpenDoor (s : State) (z : Nat) : Option Nat := doorNumbers.find? (s.holdsArming z)

/-- The arming checks in order: the result of the first that fails, with the first open door for DOOR_OPEN (R86). -/
def State.armingCheck (s : State) (z : Nat) : Option (Result × Option Nat) :=
  if s.fireState z ≠ .normal then some (.fireHold, none)
  else if s.counted z ∧ 0 < (s.occupancy z).count then some (.occupied, none)
  else
    match s.firstOpenDoor z with
    | some d => some (.doorOpen, some d)
    | none => none

/-- A zone enters ARMED (R88). -/
def State.armZone (s : State) (z : Nat) : State :=
  let r := s.guardRecord z
  (s.putGuard z { r with state := .armed, exitTimer := none, entering := none, source := none, further := 0 }).notify
    (.zoneArmed z (s.occupancyMark z))

/-! ### Leaving a guarded state (R85, R93, R94) -/

/-- A zone is set DISARMED with everything of its guard record cleared; ZONE-DISARMED is sent if it was in another
state (R85, R93, R94). -/
def State.disarmZone (s : State) (z : Nat) (cause : DisarmCause) : State :=
  let r := s.guardRecord z
  let s' := s.putGuard z .cold
  if r.state = .disarmed then s' else s'.notify (.zoneDisarmed z r.state cause)

/-! ### Sources (R89 to R92) -/

/-- A zone enters INTRUSION with a source (R92). -/
def State.intrude (s : State) (z : Nat) (kind : SourceKind) (which : Nat) : State :=
  let r := s.guardRecord z
  (s.putGuard z { r with
    state := .intrusion
    exitTimer := none
    entryTimer := none
    source := some (kind, which)
    further := 0 }).notify
    (.intrusion z kind which r.state s.mgmt.mode (s.occupancyMark z))

/-- A source event in a zone already in INTRUSION (R92). -/
def State.furtherSource (s : State) (z : Nat) : State :=
  let r := s.guardRecord z
  s.putGuard z { r with further := countUp 255 r.further }

/-- An entry door opens into an ARMED zone (R91). -/
def State.beginEntry (s : State) (z d : Nat) : State :=
  let delay := s.mgmt.wing.entryDelay
  if delay = 0 then s.intrude z .entryDelay d
  else
    let r := s.guardRecord z
    (s.putGuard z { r with state := .entering, entering := some d, entryTimer := s.timer delay }).notify
      (.entryStart z d delay)

/-- A motion report with its flag set, in its device's zone (R89); `was` is the device's last motion flag. -/
def State.motionSource (s : State) (z d : Nat) (was : Bool) : State :=
  match (s.guardRecord z).state with
  | .armed => s.intrude z .motion d
  | .exiting => s
  | .entering => s
  | .intrusion => s.furtherSource z
  | .disarmed =>
    if s.mgmt.mode = .night ∧ s.counted z ∧ (s.occupancy z).count = 0 ∧ !was then s.notify (.presence z d) else s

/-- A tamper source in a zone (R91). -/
def State.tamperSource (s : State) (z d : Nat) : State :=
  match (s.guardRecord z).state with
  | .armed => s.intrude z .tamper d
  | .exiting => s.intrude z .tamper d
  | .entering => s.intrude z .tamper d
  | .intrusion => s.furtherSource z
  | .disarmed => s

/-- An opening of a door, judged by one zone (R90, R91): its source is FORCED when the same report took the door to
FORCED, which does not count again. -/
def State.openingSource (s : State) (z d : Nat) (entryDoor forced : Bool) : State :=
  let kind : SourceKind := if forced then .forced else .opening
  match (s.guardRecord z).state with
  | .armed => if entryDoor then s.beginEntry z d else s.intrude z kind d
  | .entering => if entryDoor then s else s.intrude z kind d
  | .exiting => s
  | .intrusion => s.furtherSource z
  | .disarmed => s

/-- An exit request on a door, judged by one zone (R90). -/
def State.exitSource (s : State) (z d : Nat) (entryDoor : Bool) : State :=
  match (s.guardRecord z).state with
  | .armed => s.intrude z .exitRequest d
  | .entering => if entryDoor then s else s.intrude z .exitRequest d
  | .exiting => s
  | .intrusion => s.furtherSource z
  | .disarmed => s

/-- An event applied to each side zone of a door, side A before side B (DESIGN CHOICE, log 34); zone 0 has no guard state
(R90). -/
def State.bothSides (s : State) (d : Nat) (f : State → Nat → State) : State :=
  let e := s.doorEntry d
  let s1 := if e.sideA = 0 then s else f s e.sideA
  if e.sideB = 0 then s1 else f s1 e.sideB

/-- Step 5 of R65: the Guard Unit takes the events of a report in the order of R79. An opening or exit request on a
door whose desired cause is FIRE is ignored, a tamper is not (R90). An entry to FORCED on such a door is ignored with
its opening (DEDUCED, log 33), and in no case counts beside an opening that is judged (DEDUCED, log 18). -/
def State.guardDoorEvents (s : State) (d module : Nat) (ev : DoorEvents) : State :=
  let e := s.doorEntry d
  let fire := (s.doorRecord d).cause = .fire
  let s1 := if ev.opening ∧ ¬fire then s.bothSides d fun t z => t.openingSource z d e.entryDoor ev.forced else s
  let s2 := if ev.exit ∧ ¬fire then s1.bothSides d fun t z => t.exitSource z d e.entryDoor else s1
  if ev.tamper then s2.bothSides d fun t z => t.tamperSource z module else s2

/-- A taken report from an enabled MOTION device in RUNNING (R89): the motion flag is judged, then the tamper flag
(R91). -/
def State.motionReport (s : State) (d : Nat) (motion tamper : Bool) : State :=
  let z := (s.deviceEntry d).zone
  let s1 := if motion then s.motionSource z d (s.motionFlag d) else s
  let s2 := s1.putMotion d motion
  if tamper then s2.tamperSource z d else s2

/-- A help-point press, judged at NIGHT by the guard state of the device's zone (R92). -/
def State.pressSource (s : State) (d : Nat) : State :=
  if s.mgmt.mode = .day then s
  else
    let z := (s.deviceEntry d).zone
    match (s.guardRecord z).state with
    | .armed => s.intrude z .help d
    | .intrusion => s.furtherSource z
    | .disarmed => s
    | .exiting => s
    | .entering => s

end Sys2Proof.Machine
end

