-- ==== Sys2Proof/Machine/Calls.lean ====
section
/-! DEFINITION. The Call Unit (chapter 6): queue order, presses, eviction and loss, offering, withdrawal, pre-emption,
escalation and the fire raise. -/

namespace Sys2Proof.Machine

/-! ### The queue (R99) -/

/-- The live calls in queue order: higher priority first, and the older first among equals (R99). -/
def queueOrder (calls : List Call) : List Call :=
  [7, 6, 5, 4, 3, 2, 1, 0].flatMap fun p => calls.filter (·.priority == p)

/-- The live call with a number (R98). -/
def State.liveCall (s : State) (n : Nat) : Option Call := s.call.calls.find? (·.number == n)

/-- The live call of a help point; there is at most one (R99). -/
def State.callOf (s : State) (point : Nat) : Option Call := s.call.calls.find? (·.point == point)

/-- The OFFERED call; there is at most one (R106). -/
def State.offeredCall (s : State) : Option Call := s.call.calls.find? (·.state == .offered)

/-- The state with other live calls. -/
def State.putCalls (s : State) (calls : List Call) : State := { s with call.calls := calls }

/-- The live call with a number, changed. -/
def State.changeCall (s : State) (n : Nat) (f : Call → Call) : State :=
  s.putCalls (s.call.calls.map fun c => if c.number = n then f c else c)

/-- The queue without the call with a number. -/
def State.removeCall (s : State) (n : Nat) : State := s.putCalls (s.call.calls.filter (·.number != n))

/-! ### Offering (R106 to R108) -/

/-- The first WAITING call in queue order above the attention level (R106). -/
def State.nextToOffer (s : State) : Option Call :=
  (queueOrder s.call.calls).find? fun c => c.state == .waiting && decide (s.call.attention < c.priority)

/-- The offering check (R106). -/
def State.offeringCheck (s : State) : State :=
  if s.offeredCall.isSome ∨ s.port.link ≠ .online then s
  else
    match s.nextToOffer with
    | none => s
    | some c =>
      (s.changeCall c.number fun x => { x with state := .offered }).notify
        (.callOffer c.number c.point c.zone c.kind c.priority c.press c.trapped c.unanswered)

/-- An OFFERED call returns to WAITING with its CALL-WITHDRAWN notice (R107). -/
def State.withdraw (s : State) (n : Nat) (cause : WithdrawCause) : State :=
  (s.changeCall n fun x => { x with state := .waiting }).notify (.callWithdrawn n cause)

/-- A call reached priority 7 between two forms of the queue: it is WAITING at 7 now, and stood below 7 or was not
there before (R108). -/
def reachedSeven (before after : List Call) : Bool :=
  after.any fun c =>
    c.state == .waiting && c.priority == 7 && !(before.any fun b => b.number == c.number && b.priority == 7)

/-- Pre-emption, judged once the event has finished with every call it raises: if a WAITING call reached 7, an OFFERED
call of lower priority is withdrawn (R108). -/
def State.preempt (s : State) (before : List Call) : State :=
  match s.offeredCall with
  | none => s
  | some c => if reachedSeven before s.call.calls ∧ c.priority < 7 then s.withdraw c.number .preEmpted else s

/-- The pre-emption and the offering check that end an event of the Call Unit (R106, R108). -/
def State.judgeOffers (s : State) (before : List Call) : State := (s.preempt before).offeringCheck

/-! ### Escalation (R111 to R113) -/

/-- A call takes its escalation step: its priority rises by 1 if it is below 7 (R111). -/
def Call.step (c : Call) : Call :=
  { c with
    priority := if c.priority < 7 then c.priority + 1 else c.priority
    timer := c.timer.map fun t => { t with stepped := true } }

/-- A call starts a cycle with the step time and cycle length in force; a step time of 0 below the cycle length is
reached at once (R111). -/
def Call.startCycle (c : Call) (clock stepA cycleB : Nat) : Call :=
  let c' := { c with timer := some ⟨clock, stepA, cycleB, false⟩ }
  if stepA = 0 ∧ 0 < cycleB then c'.step else c'

/-- A call of this state starts a cycle now. -/
def State.startCycle (s : State) (c : Call) : Call := c.startCycle s.clock s.mgmt.wing.stepA s.mgmt.wing.cycleB

/-- The step of a running cycle is still to come (R111). -/
def Escalation.stepDue (e : Escalation) : Bool := !e.stepped && decide (e.stepA < e.cycleB)

/-! ### Presses (R100 to R103) -/

/-- The base priority of a kind (R102). -/
def State.basePriority (s : State) : CallKind → Nat
  | .assist => s.mgmt.wing.assistBase
  | .urgent => s.mgmt.wing.urgentBase

/-- A press joins a call (R100). -/
def Call.join (c : Call) (kind : CallKind) (urgentBase : Nat) : Call :=
  let c' := { c with press := countUp 15 c.press }
  if kind = .urgent ∧ c.kind = .assist then { c' with kind := .urgent, priority := max c.priority urgentBase } else c'

/-- The numbers 1 to 254 in the order they are tried from a pointer (R98). -/
def numbersFrom (p : Nat) : List Nat := (List.range 254).map fun i => (p - 1 + i) % 254 + 1

/-- The number a new call takes (R98). -/
def State.callNumber (s : State) : Nat :=
  ((numbersFrom s.call.nextNumber).find? fun n => (s.liveCall n).isNone).getD s.call.nextNumber

/-- The pointer after a number is taken: 1 after 254 (R98). -/
def nextCallNumber (n : Nat) : Nat := if n < 254 then n + 1 else 1

/-- The priority of a press that has no live call (R102, R103). -/
def State.newPriority (s : State) (point : Nat) (kind : CallKind) : Nat :=
  if s.fireState (s.deviceEntry point).zone = .alarm then 7 else s.basePriority kind

/-- The record of a new call (R102). -/
def State.newCall (s : State) (point : Nat) (kind : CallKind) : Call where
  number := s.callNumber
  point := point
  zone := (s.deviceEntry point).zone
  kind := kind
  priority := s.newPriority point kind
  state := .waiting
  press := 1
  trapped := s.fireState (s.deviceEntry point).zone = .alarm
  unanswered := false
  timer := none
  cycles := 0

/-- A call is created: its record, its number taken, its first cycle started and its lamp requested (R102). -/
def State.createCall (s : State) (point : Nat) (kind : CallKind) : State :=
  let c := s.startCycle (s.newCall point kind)
  let s' := { s with call.calls := s.call.calls ++ [c], call.nextNumber := nextCallNumber c.number }
  s'.requestLamp point .waiting

/-- The call a full queue may evict: the WAITING call of lowest priority, and the youngest of them (R103). -/
def evictable (calls : List Call) : Option Call := (queueOrder calls).reverse.find? (·.state == .waiting)

/-- A press that finds the queue full evicts a call or is lost (R103). -/
def State.pressFull (s : State) (point : Nat) (kind : CallKind) : State :=
  let lost := (s.count .callsLost).requestLamp point .busy
  match evictable s.call.calls with
  | none => lost
  | some v =>
    if v.priority < s.newPriority point kind then
      let s1 := (s.removeCall v.number).notify (.callDropped v.number v.point v.zone v.kind v.priority point)
      (s1.requestLamp v.point .busy).createCall point kind
    else lost

/-- A press reaches the Call Unit (R100 to R103). -/
def State.press (s : State) (point : Nat) (kind : CallKind) : State :=
  let before := s.call.calls
  match s.callOf point with
  | some c =>
    if c.state = .taken then s.notify (.repeatPress c.number c.point c.zone kind)
    else (s.changeCall c.number fun x => x.join kind s.mgmt.wing.urgentBase).judgeOffers before
  | none =>
    if s.call.calls.length < Config.callCapacity then (s.createCall point kind).judgeOffers before
    else (s.pressFull point kind).judgeOffers before

/-! ### Fire and link (R115, R116) -/

/-- Every live call of a zone that enters fire ALARM is raised to 7 with TRAPPED (R115). -/
def State.fireRaise (s : State) (z : Nat) : State :=
  let before := s.call.calls
  (s.putCalls (before.map fun c => if c.zone = z then { c with priority := 7, trapped := true } else c)).judgeOffers
    before

/-- The Call Unit is told that the link has gone STAND-ALONE (R116). -/
def State.withdrawForLink (s : State) : State :=
  match s.offeredCall with
  | some c => s.withdraw c.number .standAlone
  | none => s

end Sys2Proof.Machine
end

