-- ==== Sys2Proof/Machine/Notices.lean ====
section
/-! DEFINITION. Notices as frames: the code and content of each NOTICE payload (chapter 11, R179), the NOTICE frame
(R154) and the REPORT frame of a watch copy (R159). -/

namespace Sys2Proof.Machine

/-- A detector state, or none for a device without one (R8). -/
def detectorStateByte (o : Option DetectorState) : List Byte := orNone1 (o.map DetectorState.code)

/-- A NOTICE payload: the code, then the content in the order its chapter lists (R179). A watch copy is no NOTICE and
keeps its report's payload (R159). The reading of DETECTOR-PRE takes two bytes for either detector kind (DESIGN CHOICE,
log 31). -/
def Notice.payload : Notice → List Byte
  | .fireAlert z k d => byte1 0x01 ++ byte1 z ++ byte1 k.code ++ byte1 d
  | .fireAlarm z k c o f => byte1 0x02 ++ byte1 z ++ byte1 k.code ++ byte1 c ++ orNone2 o ++ byte1 f
  | .alertUnconfirmed z n => byte1 0x03 ++ byte1 z ++ byte1 n
  | .fireReset z f => byte1 0x04 ++ byte1 z ++ byte1 f.code
  | .evacOn c => byte1 0x05 ++ byte1 c
  | .evacOff => byte1 0x06
  | .noRoute n d z => byte1 0x07 ++ byte1 n ++ byte1 d ++ byte1 z
  | .doorForced d k a b m => byte1 0x10 ++ byte1 d ++ byte1 k.code ++ byte1 a ++ byte1 b ++ byte1 m.code
  | .doorHeld d a b t => byte1 0x11 ++ byte1 d ++ byte1 a ++ byte1 b ++ byte2 t
  | .doorPropped d a b => byte1 0x12 ++ byte1 d ++ byte1 a ++ byte1 b
  | .doorClosed d a b => byte1 0x13 ++ byte1 d ++ byte1 a ++ byte1 b
  | .zoneArmed z o => byte1 0x14 ++ byte1 z ++ orNone2 o
  | .armFailed z r none => byte1 0x15 ++ byte1 z ++ byte1 r.code
  | .armFailed z r (some d) => byte1 0x15 ++ byte1 z ++ byte1 r.code ++ byte1 d
  | .entryStart z d t => byte1 0x16 ++ byte1 z ++ byte1 d ++ byte2 t
  | .intrusion z k w g m o =>
    byte1 0x17 ++ byte1 z ++ byte1 k.code ++ byte1 w ++ byte1 g.code ++ byte1 m.code ++ orNone2 o
  | .zoneDisarmed z g c => byte1 0x18 ++ byte1 z ++ byte1 g.code ++ byte1 c.code
  | .presence z d => byte1 0x19 ++ byte1 z ++ byte1 d
  | .callOffer n p z k pr c t u =>
    byte1 0x20 ++ byte1 n ++ byte1 p ++ byte1 z ++ byte1 k.code ++ byte1 pr ++ byte1 c ++ flagByte t ++ flagByte u
  | .callWithdrawn n c => byte1 0x21 ++ byte1 n ++ byte1 c.code
  | .callDropped n p z k pr w => byte1 0x22 ++ byte1 n ++ byte1 p ++ byte1 z ++ byte1 k.code ++ byte1 pr ++ byte1 w
  | .repeatPress n p z k => byte1 0x23 ++ byte1 n ++ byte1 p ++ byte1 z ++ byte1 k.code
  | .callUnanswered n p z k pr st c t cy =>
    byte1 0x24 ++ byte1 n ++ byte1 p ++ byte1 z ++ byte1 k.code ++ byte1 pr ++ byte1 st.code ++ byte1 c ++ flagByte t
      ++ byte1 cy
  | .trouble d k z c st =>
    byte1 0x30 ++ byte1 d ++ byte1 (DeviceKind.code k) ++ byte1 z ++ byte1 c.code ++ detectorStateByte st
  | .detectorPre d z r f m => byte1 0x31 ++ byte1 d ++ byte1 z ++ byte2 r ++ byte2Int f ++ byte1 m.code
  | .testStart z => byte1 0x32 ++ byte1 z
  | .testPass d z none => byte1 0x33 ++ byte1 d ++ byte1 z
  | .testPass d z (some f) => byte1 0x33 ++ byte1 d ++ byte1 z ++ byte2Int f
  | .testEnd z c => byte1 0x34 ++ byte1 z ++ byte1 c.code
  | .doorFault d m c => byte1 0x35 ++ byte1 d ++ byte1 m ++ byte1 c.code
  | .doorRestored d m => byte1 0x36 ++ byte1 d ++ byte1 m
  | .occupancyClamp z u e => byte1 0x37 ++ byte1 z ++ flagByte u ++ byte1 e
  | .signOut n d x => byte1 0x38 ++ byte1 n ++ byte1 d ++ byte1 x.code
  | .signRestored n d => byte1 0x39 ++ byte1 n ++ byte1 d
  | .orderDone t c k n => byte1 0x3A ++ byte1 t ++ c.bytes ++ byte1 k ++ byte1 n
  | .orderFailed t c k o h => byte1 0x3B ++ byte1 t ++ c.bytes ++ byte1 k ++ o.bytes ++ flagByte h
  | .linkStandalone t => byte1 0x3C ++ byte2 t
  | .linkOnline t => byte1 0x3D ++ byte2 t
  | .watchCopy _ _ p => p

/-- The frame of a notice queue entry: a NOTICE to station 0, or to 31 if it is broadcast, with tag 0 (R154), or the
REPORT of a watch copy (R159). -/
def Notice.frame (own : BitVec 5) : Notice → Frame
  | .watchCopy d tag p => ⟨0#5, 0#7, own, BitVec.ofNat 7 d, .report, 15#4, tag, p⟩
  | n => ⟨if n.broadcast then 31#5 else 0#5, 0#7, own, 0#7, .notice, 15#4, 0#8, n.payload⟩

end Sys2Proof.Machine
end

