-- ==== Sys2Proof/Machine/Ports.lean ====
section
/-! DEFINITION. The Port Unit (chapter 9): routing and repeating of backbone frames, the pass-through queues, the
output arbiters, the pause and the supervision of the link. -/

namespace Sys2Proof.Machine

/-- The other backbone port. -/
def otherPort : BackbonePort → BackbonePort
  | .u => .d
  | .d => .u

/-! ### Pass-through queues (R151) -/

/-- The pass-through queue of frames to be repeated on a port. -/
def State.passQueue (s : State) : BackbonePort → List Frame
  | .u => s.port.upQueue
  | .d => s.port.downQueue

/-- The Port Unit with another pass-through queue toward a port. -/
def PortUnit.putPassQueue (x : PortUnit) (p : BackbonePort) (q : List Frame) : PortUnit :=
  match p with
  | .u => { x with upQueue := q }
  | .d => { x with downQueue := q }

/-- The state with another pass-through queue toward a port. -/
def State.putPassQueue (s : State) (p : BackbonePort) (q : List Frame) : State :=
  { s with port := s.port.putPassQueue p q }

/-- PASS_DROPPED of the direction toward a port. -/
def passDroppedCounter : BackbonePort → Counter
  | .u => .passDroppedUp
  | .d => .passDroppedDown

/-- A frame joins the tail of the pass-through queue toward a port, or is dropped and counted (R151). -/
def State.repeatOn (s : State) (p : BackbonePort) (f : Frame) : State :=
  if (s.passQueue p).length < Config.passCapacity then s.putPassQueue p (s.passQueue p ++ [f])
  else s.count (passDroppedCounter p)

/-- A frame with its hop count less 1 (R148). -/
def Frame.onward (f : Frame) : Frame := { f with hop := f.hop - 1#4 }

/-- The hop-count rule for a frame that is not taken (R148, R149). -/
def State.passByHops (s : State) (p : BackbonePort) (f : Frame) : State :=
  if f.hop = 0#4 then s.count .hopExpired else s.repeatOn (otherPort p) f.onward

/-! ### Taking (R148, R149) -/

/-- The frame is a broadcast ASSIGN, which an UNNUMBERED part takes (R149, R177). -/
def isBroadcastAssign (f : Frame) : Bool :=
  f.kind == .set && f.destStation == 31#5 && f.payload.head? == some 0x01#8

/-- A frame of the right form arrives on a backbone port: it is taken, repeated, both or neither by its destination
station and hop count; `taker` is what its taker does with it (R148, R149). A frame over 56 bytes is counted in TOO_LONG
(R147). -/
def State.arrive (s : State) (p : BackbonePort) (f : Frame) (taker : State → State) : State :=
  if Config.maxPayload < f.payload.length then s.count (tooLongCounter p)
  else if s.mgmt.part = .unnumbered then
    if isBroadcastAssign f then taker s else s.passByHops p f
  else if f.destStation = s.stationNumber then taker s
  else if f.destStation = 31#5 then
    if f.hop = 0#4 then taker s else (taker s).repeatOn (otherPort p) f.onward
  else s.passByHops p f

/-! ### Output arbiters (R154, R155) -/

/-- A notice queue entry is eligible for a port: owed there, and on U not held by the pause (R154, R156). -/
def State.eligible (s : State) (p : BackbonePort) (e : NoticeEntry) : Bool :=
  match p with
  | .u => e.owedU && (!s.port.pause || e.notice.priority == 0)
  | .d => e.owedD

/-- The highest priority of a list of entries: its least number, 3 for an empty list. -/
def bestPriority (q : List NoticeEntry) : Nat := q.foldl (fun (n : Nat) (e : NoticeEntry) => min n e.notice.priority) 3

/-- The entry is the one a port sends next when it stands first among those that satisfy this (R154). -/
def State.nextOn (s : State) (p : BackbonePort) (e : NoticeEntry) : Bool :=
  s.eligible p e && e.notice.priority == bestPriority (s.port.notices.filter (s.eligible p))

/-- An entry with its mark for a port cleared. -/
def NoticeEntry.sent (e : NoticeEntry) : BackbonePort → NoticeEntry
  | .u => { e with owedU := false }
  | .d => { e with owedD := false }

/-- The queue after the send of an entry has begun: an entry with no mark left leaves it (R154). -/
def afterSend (test : NoticeEntry → Bool) (e : NoticeEntry) (q : List NoticeEntry) : List NoticeEntry :=
  if e.owedU || e.owedD then replaceFirst test e q else q.eraseP test

/-- What the part's own side sends next on a port: the oldest ready answer, else the notice of R154; with the state
that has begun to send it (R155). -/
def State.ownOutput (s : State) (p : BackbonePort) : Option (Frame × State) :=
  match (s.answers p).ready with
  | f :: rest => some (f, s.putAnswers p { s.answers p with ready := rest })
  | [] =>
    (s.port.notices.find? (s.nextOn p)).map fun e =>
      (e.notice.frame s.stationNumber,
        { s with port.notices := afterSend (s.nextOn p) (e.sent p) s.port.notices })

/-- What the pass-through side sends next on a port, with the state that has begun to send it (R151, R155). -/
def State.passOutput (s : State) (p : BackbonePort) : Option (Frame × State) :=
  match s.passQueue p with
  | f :: rest => some (f, s.putPassQueue p rest)
  | [] => none

/-- The arbiter mark of a port. -/
def State.arbiterMark (s : State) : BackbonePort → ArbiterMark
  | .u => s.port.markU
  | .d => s.port.markD

/-- The Port Unit when a frame of a side is granted a port: the mark names the side, and the port's line carries the
frame (R155). -/
def PortUnit.send (x : PortUnit) (p : BackbonePort) (side : ArbiterMark) (line : List Sending) : PortUnit :=
  match p with
  | .u => { x with markU := side, lineU := line }
  | .d => { x with markD := side, lineD := line }

/-- A frame of a side is granted a port that has come free, and its send begins (R155). -/
def State.sendOn (s : State) (p : BackbonePort) (side : ArbiterMark) (f : Frame) : State :=
  { s with port := s.port.send p side (joinLine [] s.clock Config.backboneByteTicks f) }

/-- A port that is free is granted to one of its sides: to the one that waits, and to the one its mark does not name
when both wait (R155). With nothing waiting it stays free. -/
def State.grant (s : State) (p : BackbonePort) : State :=
  match s.ownOutput p, s.passOutput p with
  | none, none => s
  | some (f, t), none => t.sendOn p .own f
  | none, some (f, t) => t.sendOn p .pass f
  | some (f, t), some (f', t') =>
    match s.arbiterMark p with
    | .own => t'.sendOn p .pass f'
    | .pass => t.sendOn p .own f

/-! ### Pause (R156) -/

/-- A PAUSE or RESUME that has been taken: from U it sets or clears the pause, and from D it is discarded (R150,
R156). -/
def State.takePause (s : State) (p : BackbonePort) (on : Bool) : State :=
  match p with
  | .u => { s with port.pause := on }
  | .d => s

/-! ### Link supervision (R157, R158) -/

/-- The link goes from STAND-ALONE to ONLINE (R158): the Call Unit makes its offering check and LINK-ONLINE carries the
seconds it stood STAND-ALONE, 0 for the first BEAT after a cold start. -/
def State.goOnline (s : State) : State :=
  let stood := match s.port.aloneSince with
    | none => 0
    | some t => min 65535 (inUnits (s.clock - t) (seconds 1))
  ({ s with port.link := .online }.offeringCheck).notify (.linkOnline stood)

/-- The link goes from ONLINE to STAND-ALONE when its timer expires (R158): the pause and the permit are cleared, an
offered call is withdrawn and LINK-STANDALONE carries the timeout that expired. -/
def State.goStandAlone (s : State) (timeout : Nat) : State :=
  let s1 := { s with
    port.pause := false
    port.link := .standAlone
    port.aloneSince := some s.clock }
  { s1.withdrawForLink with door.permit := none }.notify (.linkStandalone timeout)

/-- A BEAT that has been taken: from U it restarts or stops the beat timer and brings the link ONLINE, and from D it is
discarded (R150, R157). -/
def State.takeBeat (s : State) (p : BackbonePort) : State :=
  match p with
  | .d => s
  | .u =>
    let timeout := s.mgmt.wing.beatTimeout
    let s1 := { s with port.beatTimer := if timeout = 0 then none else s.timer timeout }
    match s.port.link with
    | .standAlone => s1.goOnline
    | .online => s1

/-- The beat timer expires (R157). -/
def State.beatExpiry (s : State) : State :=
  match s.port.beatTimer with
  | none => s
  | some t =>
    let s1 := { s with port.beatTimer := none }
    match s.port.link with
    | .online => s1.goStandAlone (t.len / Config.ticksPerSecond)
    | .standAlone => s1

end Sys2Proof.Machine
end

