-- ==== Sys2Proof/Machine/Signs.lean ====
section
/-! DEFINITION. The Sign Unit (chapter 7): desired displays, prospective displays, the visit of a pass to one sign,
sign reports, outcomes of SHOW orders, missing and restored signs. -/

namespace Sys2Proof.Machine

/-! ### Desired displays (R122, R123) -/

/-- The option in a slot, numbered 1 to 4. -/
def SignEntry.slot (e : SignEntry) (k : Nat) : Option SignOption := (e.slots[k - 1]?).join

/-- The default option's arrow, steady (R122). -/
def SignEntry.defaultDisplay (e : SignEntry) : Option Display := (e.slot e.default).map fun o => .steady o.arrow

/-- A zone blocks a route while it is in ALERT or ALARM (R123). -/
def State.blocks (s : State) (z : Nat) : Bool := s.fireState z == .alert || s.fireState z == .alarm

/-- An option qualifies: no blocking zone is in ALERT or ALARM and every required door is passable (R123). -/
def State.qualifies (s : State) (o : SignOption) : Bool := o.zones.all (fun z => !s.blocks z) && o.doors.all s.passable

/-- The first option in slot order that qualifies (R123). -/
def State.firstOption (s : State) (e : SignEntry) : Option SignOption :=
  (e.slots.filterMap id).find? s.qualifies

/-- The desired display of a sign as the wing stands now (R122, R123). -/
def State.displayOf (s : State) (n : Nat) : Option Display :=
  let e := s.signEntry n
  if s.zone.evacuation then
    match s.firstOption e with
    | some o => some (.flashing o.arrow)
    | none => some .cross
  else e.defaultDisplay

/-! ### Prospective displays (R124) -/

/-- The display an order code shows, if it is a SHOW. -/
def OrderCode.shows : OrderCode → Option Display
  | .display d => some d
  | _ => none

/-- The display of a record, if there is one. -/
def shownBy (r : Option OrderRecord) : Option Display := r.bind fun x => x.code.shows

/-- The prospective display of a sign: that of its waiting SHOW record, else that of its SHOW record in flight, else
its commanded display (R124). -/
def State.prospective (s : State) (n : Nat) : Option Display :=
  let dev := (s.signEntry n).device
  match shownBy (s.waitingFor dev .display) with
  | some d => some d
  | none =>
    match shownBy (s.flyingFor dev .display) with
    | some d => some d
    | none => (s.signRecord n).commanded

/-- The Sign Unit orders a sign's desired display if an order is needed (R124). -/
def State.orderDisplay (s : State) (n : Nat) : State :=
  let r := s.signRecord n
  if r.owed then s
  else if r.desired ≠ s.prospective n ∨ s.prospective n = none then s.requestSign n
  else if (s.waitingFor (s.signEntry n).device .display).isSome then s.requestSign n
  else s

/-! ### The pass (R121) -/

/-- A sign's desired display is worked out; one that becomes CROSS sends NO-ROUTE (R123). -/
def State.workOutDisplay (s : State) (n : Nat) : State :=
  let r := s.signRecord n
  let new := s.displayOf n
  let s' := s.putSign n { r with desired := new }
  if new = some .cross ∧ r.desired ≠ some .cross then
    s'.notify (.noRoute n (s.signEntry n).device (s.deviceEntry (s.signEntry n).device).zone)
  else s'

/-- The pass at one sign (R121). -/
def State.passSign (s : State) (n : Nat) : State :=
  if !(s.signEntry n).enabled then s
  else if s.missing (s.signEntry n).device then s
  else if (s.signRecord n).fault then s.workOutDisplay n
  else (s.workOutDisplay n).orderDisplay n

/-- The pass moves on from a sign: after sign 47 route-stale is cleared, or a new pass begins if the repeat mark is set
(R121). -/
def State.passOn (s : State) (n : Nat) : State :=
  if n < 47 then { s with sign.pass := some (n + 1) }
  else if s.sign.repeatMark then { s with sign.pass := some 0, sign.repeatMark := false }
  else { s with sign.pass := none, zone.routeStale := false }

/-! ### Reports and outcomes (R125 to R127) -/

/-- Steps 2 and 3 of R127: a display mismatch is acted on, and the echo is kept. -/
def State.signEcho (s : State) (n : Nat) (echo : Display) : State :=
  let r := s.signRecord n
  let dev := (s.signEntry n).device
  let acts := r.commanded ≠ none ∧ r.commanded ≠ some echo ∧ !r.fault ∧ !s.missing dev ∧ !r.owed
    ∧ (s.waitingFor dev .display).isNone ∧ (s.flyingFor dev .display).isNone
  let s1 := if acts then (s.putSign n { r with commanded := none }).setStale else s
  s1.putSign n { s1.signRecord n with echo := some echo }

/-- A taken report from a SIGN device in RUNNING (R127); a device no enabled sign names reaches no sign. -/
def State.signReport (s : State) (d : Nat) (echo : Display) (lampFail : Bool) : State :=
  match s.signOfDevice d with
  | none => s
  | some n => (s.changeCauses d { s.causes d with signFault := lampFail }).signEcho n echo

/-- A sign in FAULT whose order is confirmed: the fault is cleared and SIGN-RESTORED is sent (R125, step 2). -/
def State.restoreSign (s : State) (n : Nat) : State :=
  if (s.signRecord n).fault then
    (s.putSign n { s.signRecord n with fault := false }).notify (.signRestored n (s.signEntry n).device)
  else s

/-- A confirmed SHOW (R125). A sign that is owed requests no further order (R124), and neither does one whose device is
MISSING, owed or not (DESIGN CHOICE, log 39). -/
def State.showConfirmed (s : State) (n : Nat) (d : Display) : State :=
  let s1 := (s.putSign n { s.signRecord n with commanded := some d }).restoreSign n
  let r := s1.signRecord n
  if r.desired = s1.prospective n ∨ r.owed ∨ s1.missing (s1.signEntry n).device then s1 else s1.requestSign n

/-- A failed SHOW (R126). -/
def State.showFailed (s : State) (n : Nat) (d : Display) : State :=
  let r := s.signRecord n
  let s' := s.putSign n { r with fault := true, commanded := none }
  if r.fault then s' else s'.notify (.signOut n (s.signEntry n).device d)

end Sys2Proof.Machine
end

