-- ==== Sys2Proof/Machine/Detectors.lean ====
section
/-! DEFINITION. The Detector Evaluator (chapter 2): the five stages of the reading computation on one detector record,
drift, and the changes the other units ask for. -/

namespace Sys2Proof.Machine

/-! ### Records (R19, R30, R34) -/

/-- The record of a detector at its device entry load (R19). -/
def Detector.loaded (c : ClassEntry) (enabled : Bool) : Detector where
  state := if enabled then .quiet else .disabled
  baseline := if c.loaded then 16 * c.b0 else 0
  limitLow := if c.loaded then c.bmin else 0
  limitHigh := if c.loaded then c.bmax else 0
  filtered := 0
  verify := 0
  lastClass := .none
  lastCompare := .none
  lastNormal := none
  lastSet := none

/-- A detector returned to QUIET by the Zone Unit (R30, R32). -/
def Detector.returned (d : Detector) : Detector :=
  { d with state := .quiet, verify := 0, filtered := 0, lastNormal := none }

/-- A detector whose device becomes MISSING, judged as though it had given an UNORDERED result (R34). One in ALARM keeps
its last compare (DESIGN CHOICE, log 30). -/
def Detector.becomeMissing (d : Detector) : Detector :=
  match d.state with
  | .alarm => d
  | .disabled => d
  | _ => { d with state := .trouble, verify := 0, lastCompare := .unordered }

/-- A detector at a hot start (R20). -/
def Detector.hotStart (d : Detector) : Detector :=
  let st := match d.state with
    | .pre => DetectorState.quiet
    | .verify => .quiet
    | st => st
  { d with state := st, filtered := 0, verify := 0, lastNormal := none }

/-! ### The reading computation (R21 to R28) -/

/-- What a detector report is judged by (R21). -/
structure Judgement where
  kind : DetectorKind
  cls : ClassEntry
  mode : WingMode
  /-- The device is MISSING. -/
  missing : Bool
  reading : Nat
  /-- The report's fault flag. -/
  faultFlag : Bool
deriving DecidableEq, Repr

/-- The set that judges a report: the day set by DAY and the night set by NIGHT (R21). -/
def Judgement.set (j : Judgement) : JudgeSet :=
  match j.mode with
  | .day => j.cls.day
  | .night => j.cls.night

/-- The top code of a kind (R22). -/
def DetectorKind.topCode : DetectorKind → Nat
  | .smoke => 1023
  | .heat => 255

/-- What the Evaluator fixes before the first stage: the set of last report, a HEAT detector's baseline and limits, and
those of a SMOKE detector whose baseline is unset (R21). -/
def Judgement.fix (j : Judgement) (d : Detector) : Detector :=
  let d := { d with lastSet := some j.mode }
  if j.kind = .heat ∨ (d.baseline = 0 ∧ j.cls.loaded) then
    { d with baseline := 16 * j.cls.b0, limitLow := j.cls.bmin, limitHigh := j.cls.bmax }
  else d

/-- The report itself shows a fault (R22, R23). -/
def Judgement.faulty (j : Judgement) : Bool := !j.cls.loaded || j.faultFlag || j.reading == 0

/-- Stage 1: the classification (R22). -/
def Judgement.classify (j : Judgement) : Classification :=
  if j.missing then .absent
  else if j.faulty then .fault
  else if j.reading = j.kind.topCode then .saturated
  else if j.reading < j.cls.floor then .low
  else .normal

/-- Stage 1: the FAULT and LOW causes brought up to date from the report's own content (R23). -/
def Judgement.causes (j : Judgement) (c : Causes) : Causes :=
  { c with
    fault := j.faulty
    low := decide (0 < j.reading) && decide (j.reading < j.cls.floor) && !j.faultFlag && j.cls.loaded }

/-- The working reading of a report classified NORMAL or SATURATED (R24). -/
def Judgement.workingReading (j : Judgement) : Option Nat :=
  match j.classify with
  | .normal => some j.reading
  | .saturated => some (j.kind.topCode - 1)
  | _ => none

/-- Stages 2 and 3: the net value and one step of the filter (R24, R25). -/
def Judgement.filter (j : Judgement) (d : Detector) : Detector :=
  match j.workingReading with
  | some r =>
    let n : Int := 16 * (r : Int) - (d.baseline : Int)
    { d with
      filtered := d.filtered + (n - d.filtered).tdiv (2 ^ j.set.s)
      lastNormal := if j.classify = .normal then some r else none }
  | none => { d with lastNormal := none }

/-- Stage 4: the compare result of a filtered value (R26). -/
def Judgement.compare (j : Judgement) (f : Int) : Compare :=
  match j.classify with
  | .saturated => .above
  | .normal =>
    if 16 * (j.set.a : Int) ≤ f then .above
    else if 16 * (j.set.p : Int) ≤ f then .pre
    else .below
  | _ => .unordered

/-- Stages 1 to 4 on a detector record. -/
def Judgement.stages (j : Judgement) (d : Detector) : Detector :=
  let d1 := { j.fix d with lastClass := j.classify }
  let d2 := j.filter d1
  { d2 with lastCompare := j.compare d2.filtered }

/-- Stage 5: the move of a detector on a compare result, with V the verify count of the chosen set (R27, R28, R29). -/
def Detector.move (d : Detector) (c : Compare) (v : Nat) : Detector :=
  if d.state = .alarm ∨ d.state = .disabled then d
  else
    match c with
    | .none => d
    | .below => { d with state := .quiet, verify := 0 }
    | .pre => { d with state := .pre, verify := 0 }
    | .unordered => { d with state := .trouble, verify := 0 }
    | .above =>
      let n := if d.state = .verify then d.verify + 1 else 1
      { d with state := if v ≤ n then .alarm else .verify, verify := n }

/-- The compare result stage 5 acts on: in a DISABLED zone PRE and ABOVE are taken as BELOW (R33). -/
def stageFiveCompare (fire : FireState) (c : Compare) : Compare :=
  if fire = .disabled ∧ (c = .pre ∨ c = .above) then .below else c

/-! ### Drift (R36 to R38) -/

/-- The limit adjustment of a drift step: the record, and whether it sets the baseline to a limit (R36). -/
def Detector.adjustLimits (d : Detector) (c : ClassEntry) : Detector × Bool :=
  if d.state = .quiet ∧ d.baseline ≠ 0 ∧ (c.bmin ≠ d.limitLow ∨ c.bmax ≠ d.limitHigh) then
    let d' := { d with limitLow := c.bmin, limitHigh := c.bmax }
    if d.baseline < 16 * c.bmin then ({ d' with baseline := 16 * c.bmin }, true)
    else if 16 * c.bmax < d.baseline then ({ d' with baseline := 16 * c.bmax }, true)
    else (d', false)
  else (d, false)

/-- The result of the drift movement of a detector before it is held, if a movement is made (R37). -/
def Detector.driftResult (d : Detector) (c : ClassEntry) : Option Int :=
  match d.lastNormal with
  | none => none
  | some r =>
    let diff : Int := 16 * (r : Int) - (d.baseline : Int)
    if d.state = .quiet ∧ c.drift ∧ d.baseline ≠ 0 ∧ diff.natAbs ≤ 16 * c.window then
      some ((d.baseline : Int) + diff.tdiv 64)
    else none

/-- The drift movement: the record, and what becomes of COMP_LIMIT from what it was (R37, R38). -/
def Detector.driftMove (d : Detector) (c : ClassEntry) (compLimit : Bool) : Detector × Bool :=
  match d.driftResult c with
  | none => (d, compLimit)
  | some b =>
    let lo : Int := 16 * (d.limitLow : Int)
    let hi : Int := 16 * (d.limitHigh : Int)
    if b < lo then ({ d with baseline := 16 * d.limitLow }, true)
    else if hi < b then ({ d with baseline := 16 * d.limitHigh }, true)
    else ({ d with baseline := b.toNat }, if lo < b ∧ b < hi then false else compLimit)

/-- The drift step of a SMOKE detector with COMP_LIMIT as it stood: limit adjustment, then drift movement (R36 to
R38). Only what COMP_LIMIT becomes in the end is answered (DESIGN CHOICE, log 40). -/
def Detector.driftStep (d : Detector) (c : ClassEntry) (compLimit : Bool) : Detector × Bool :=
  let x := d.adjustLimits c
  x.1.driftMove c (compLimit || x.2)

end Sys2Proof.Machine
end

