-- ==== Sys2Proof/Machine/Zones.lean ====
section
/-! DEFINITION. The Zone Unit (chapter 3): coincidence groups, knocks, entry to ALERT and ALARM, the fire zone list and
the evacuation flag, call points, and detector reports as they reach the zone. -/

namespace Sys2Proof.Machine

/-! ### Detectors of a zone -/

/-- The detectors of a zone in ALARM, in rising device number. -/
def State.alarmDetectors (s : State) (z : Nat) : List Nat :=
  deviceNumbers.filter fun d => (s.deviceEntry d).zone == z && s.detectorState d == some .alarm

/-- Returns the ALARM detectors of a zone to QUIET (R30). -/
def State.returnDetectors (s : State) (z : Nat) : State :=
  (s.alarmDetectors z).foldl (fun t d => t.putDetector d ((t.detector d).map Detector.returned)) s

/-! ### Coincidence groups (R43) -/

/-- A zone may join a group: it is 1 to 24 and neither in TEST nor DISABLED (R43). -/
def State.joinsGroup (s : State) (z : Nat) : Bool :=
  decide (1 ≤ z) && decide (z ≤ 24) && s.fireState z != .test && s.fireState z != .disabled

/-- An enabled FIRE door whose last reported contact is OPEN joins its two sides (R43). -/
def State.joinedBy (s : State) (d : Nat) : Bool :=
  (s.doorEntry d).enabled && (s.doorEntry d).kind == .fire && (s.doorRecord d).contact == some .open

/-- Two zones lie on the two sides of one open fire door (R43). -/
def State.adjacent (s : State) (x y : Nat) : Bool :=
  doorNumbers.any fun d =>
    s.joinedBy d
      && (((s.doorEntry d).sideA == x && (s.doorEntry d).sideB == y)
        || ((s.doorEntry d).sideA == y && (s.doorEntry d).sideB == x))

/-- A set of zones with every zone one open fire door away. -/
def State.reach (s : State) (g : List Nat) : List Nat :=
  zoneNumbers.filter fun w => g.contains w || (s.joinsGroup w && g.any fun x => s.adjacent x w)

/-- So many steps of reach from a set of zones. -/
def State.reachSteps (s : State) : Nat → List Nat → List Nat
  | 0, g => g
  | k + 1, g => s.reachSteps k (s.reach g)

/-- The coincidence group of a zone in rising zone number; 24 steps reach every zone (R43). -/
def State.group (s : State) (z : Nat) : List Nat := s.reachSteps 24 [z]

/-- The distinct detectors in ALARM in a set of zones (R44, R45). -/
def State.alarmCount (s : State) (g : List Nat) : Nat :=
  (deviceNumbers.filter fun d => g.contains (s.deviceEntry d).zone && s.detectorState d == some .alarm).length

/-! ### Fire states (R48, R53, R56) -/

/-- A zone with another fire state, told to the Door Unit if its release demand changes (R56). -/
def State.setFire (s : State) (z : Nat) (f : FireState) : State :=
  let r := s.zoneRecord z
  let s' := s.putZone z { r with fire := f }
  if r.fire.demand = f.demand then s' else s'.workOutAll

/-- The evacuation flag goes from clear to set with a cause: the zone, or 0 for EVACUATE (R53). -/
def State.setEvacuation (s : State) (cause : Nat) : State :=
  if s.zone.evacuation then s
  else ({ s with zone.evacuation := true }.setStale).notify (.evacOn cause)

/-- The zone at the head of the fire zone list, or 0 of an empty list (R49). -/
def State.firstAlarm (s : State) : Nat := s.zone.fireList.headD 0

/-- A zone enters fire ALARM with the device that caused it, by the eight steps of R48. -/
def State.enterAlarm (s : State) (z cause : Nat) : State :=
  let r := s.zoneRecord z
  let s1 := s.putZone z { r with fire := .alarm, cause := some cause, window := none }
  let s2 := { s1 with zone.fireList := s1.zone.fireList ++ [z] }
  let s3 := (s2.setEvacuation z).setStale
  let s4 := s3.workOutAll
  let s5 := s4.disarmZone z .fire
  let s6 := s5.fireRaise z
  s6.notify (.fireAlarm z (s6.zoneEntry z).kind cause (s6.occupancyMark z) s6.firstAlarm)

/-- A zone enters ALERT with its first knock (R45). -/
def State.enterAlert (s : State) (z detector : Nat) : State :=
  let r := s.zoneRecord z
  let s1 := s.putZone z { r with fire := .alert, window := s.timer s.mgmt.wing.knockWindow }
  (s1.setStale.notify (.fireAlert z (s.zoneEntry z).kind detector)).workOutAll

/-! ### Knocks (R44, R45) -/

/-- The zones of a group that a confirmed knock takes to ALARM: those that hold an ALARM detector and are not in ALARM
already; z first if it is among them, then the others in rising zone number (R45). -/
def State.confirmed (s : State) (z : Nat) (g : List Nat) : List Nat :=
  let hit := g.filter fun w => !(s.alarmDetectors w).isEmpty && s.fireState w != .alarm
  hit.filter (· == z) ++ hit.filter (· != z)

/-- A list of zones enters ALARM, in order, with one cause. -/
def State.enterAlarms (s : State) (zs : List Nat) (cause : Nat) : State :=
  zs.foldl (fun t w => t.enterAlarm w cause) s

/-- A detector of a SINGLE zone has entered ALARM (R44). -/
def State.singleKnock (s : State) (z detector : Nat) : State :=
  let s1 := if s.fireState z = .normal ∨ s.fireState z = .alert then s.enterAlarm z detector else s
  let g := s1.group z
  if 2 ≤ s1.alarmCount g then
    s1.enterAlarms
      ((s1.confirmed z g).filter fun w => s1.fireState w == .alert && (s1.zoneEntry w).mode == .double) detector
  else s1

/-- A detector of a DOUBLE zone has entered ALARM (R45). -/
def State.doubleKnock (s : State) (z detector : Nat) : State :=
  let g := s.group z
  if 2 ≤ s.alarmCount g then s.enterAlarms (s.confirmed z g) detector
  else if s.fireState z = .normal then s.enterAlert z detector
  else s

/-- The Zone Unit is told that a detector of a zone has entered ALARM (R29). -/
def State.knock (s : State) (z detector : Nat) : State :=
  match (s.zoneEntry z).mode with
  | .single => s.singleKnock z detector
  | .double => s.doubleKnock z detector

/-! ### Reports of call points (R47) -/

/-- A taken report from an enabled MCP in RUNNING (R47). -/
def State.mcpReport (s : State) (d : Nat) (activated : Bool) : State :=
  let z := (s.deviceEntry d).zone
  let s1 :=
    if !activated then s
    else
      match s.fireState z with
      | .normal => s.enterAlarm z d
      | .alert => s.enterAlarm z d
      | .alarm => s
      | .test => if s.activatedFlag d then s else s.notify (.testPass d z none)
      | .disabled => s
  s1.putActivated d activated

/-! ### Reports of detectors (R21 to R33) -/

/-- What a detector's move at stage 5 brings: an ALARM entry told to the Zone Unit or a test pass (R29, R32), or a
DETECTOR-PRE notice (R31). -/
def State.detectorMoved (s : State) (d reading : Nat) (before after : Detector) (mode : WingMode) : State :=
  let z := (s.deviceEntry d).zone
  if after.state = .alarm ∧ before.state ≠ .alarm then
    if s.fireState z = .test then
      (s.putDetector d (some after.returned)).notify (.testPass d z (some after.filtered))
    else s.knock z d
  else if after.state = .pre ∧ before.state ≠ .pre ∧ s.fireState z ≠ .test then
    s.notify (.detectorPre d z reading after.filtered mode)
  else s

/-- A taken report from an enabled SMOKE or HEAT device in RUNNING is evaluated. One TROUBLE notice tells the changes
of the cause set from what it was before the report and an entry to TROUBLE (R8, R21). -/
def State.detectorReport (s : State) (d reading : Nat) (kind : DetectorKind) (faultFlag : Bool) (was : Causes) :
    State :=
  match s.detector d with
  | none => s
  | some det =>
    let j : Judgement :=
      ⟨kind, s.classEntry (s.deviceEntry d).cls, s.mgmt.mode, s.missing d, reading, faultFlag⟩
    let staged := j.stages det
    let moved := staged.move (stageFiveCompare (s.fireState (s.deviceEntry d).zone) staged.lastCompare) j.set.v
    let s1 := (s.putCauses d (j.causes (s.causes d))).putDetector d (some moved)
    let s2 := s1.detectorMoved d reading det moved j.mode
    if s1.causes d ≠ was ∨ (moved.state = .trouble ∧ det.state ≠ .trouble) then s2.tellTrouble d else s2

end Sys2Proof.Machine
end

