-- ==== Sys2Proof/Machine/Expiry.lean ====
section
/-! DEFINITION. What the expiry of each unit's timer does (R46, R52, R68, R69, R87, R91, R111, R112). An expiry of a
timer that does not run does nothing. Whether a timer's length has passed is told by the command, and is not compared
with the clock (DESIGN CHOICE, log 3). -/

namespace Sys2Proof.Machine

/-- A walk test ends: the zone returns to NORMAL with its timer stopped, and TEST-END carries the cause (R52). -/
def State.endWalkTest (s : State) (z : Nat) (cause : TestEndCause) : State :=
  ((s.putZone z { s.zoneRecord z with walk := none }).setFire z .normal).notify (.testEnd z cause)

/-- The walk-test timer of a zone expires (R52). -/
def State.walkTestExpiry (s : State) (z : Nat) : State :=
  let r := s.zoneRecord z
  if r.walk.isSome ∧ r.fire = .test then s.endWalkTest z .limit else s

/-- The double-knock window of a zone expires, by the four steps of R46. -/
def State.knockWindowExpiry (s : State) (z : Nat) : State :=
  let r := s.zoneRecord z
  if r.window.isSome ∧ r.fire = .alert then
    let returned := (s.alarmDetectors z).length
    let s1 := s.returnDetectors z
    let s2 := (s1.putZone z { s1.zoneRecord z with window := none }).setFire z .normal
    s2.setStale.notify (.alertUnconfirmed z returned)
  else s

/-- The pulse timer of a door expires: its window is CLOSED and it stays as it is (R68). -/
def State.pulseExpiry (s : State) (d : Nat) : State :=
  let r := s.doorRecord d
  if r.pulseTimer.isSome then s.putDoor d { r with window := .closed, pulseTimer := none } else s

/-- The held timer of a door reaches compare A (R69). -/
def State.heldCompareA (s : State) (d : Nat) : State :=
  let r := s.doorRecord d
  let e := s.doorEntry d
  if r.heldTimer.isSome ∧ !r.heldReached ∧ e.heldA < e.heldB then s.reachHeldA d e.heldA else s

/-- The held timer of a door reaches compare B: the door is PROPPED (R69). -/
def State.heldCompareB (s : State) (d : Nat) : State :=
  let e := s.doorEntry d
  if (s.doorRecord d).heldTimer.isSome then (s.enterDoor d .propped).notify (.doorPropped d e.sideA e.sideB) else s

/-- The exit delay of a zone expires and the arming checks are made again (R87). -/
def State.exitDelayExpiry (s : State) (z : Nat) : State :=
  let r := s.guardRecord z
  if r.exitTimer.isSome ∧ r.state = .exiting then
    match s.armingCheck z with
    | none => s.armZone z
    | some (reason, door) =>
      (s.putGuard z { r with state := .disarmed, exitTimer := none }).notify (.armFailed z reason door)
  else s

/-- The entry delay of a zone expires: an intrusion by the entering door (R91). -/
def State.entryDelayExpiry (s : State) (z : Nat) : State :=
  let r := s.guardRecord z
  if r.entryTimer.isSome ∧ r.state = .entering then s.intrude z .entryDelay (r.entering.getD 0) else s

/-- The escalation timer of a call reaches its step (R111). -/
def State.escalationStep (s : State) (n : Nat) : State :=
  match (s.liveCall n).bind (·.timer) with
  | some t => if t.stepDue then (s.changeCall n Call.step).judgeOffers s.call.calls else s
  | none => s

/-- A call with another cycle completed: UNANSWERED, and its cycles counted up to 255 (R112). -/
def Call.endCycle (c : Call) : Call := { c with unanswered := true, cycles := countUp 255 c.cycles }

/-- The CALL-UNANSWERED notice of a call (R112). -/
def Call.unansweredNotice (c : Call) : Notice :=
  .callUnanswered c.number c.point c.zone c.kind c.priority c.state c.press c.trapped c.cycles

/-- The escalation timer of a call ends its cycle and starts the next (R112). -/
def State.escalationCycleEnd (s : State) (n : Nat) : State :=
  match s.liveCall n with
  | none => s
  | some c =>
    if c.timer.isNone then s
    else
      let s1 := (s.changeCall n Call.endCycle).notify c.endCycle.unansweredNotice
      (s1.changeCall n s1.startCycle).judgeOffers s.call.calls

end Sys2Proof.Machine
end

