-- ==== Sys2Proof/Machine/Clock.lean ====
section
/-! DEFINITION. The clock: which command of time or of an engine is due when no command waits, and the tick. The opcode
table has no row for a tick, so both are what `step` does on an empty queue (DESIGN CHOICE, log 2). Events due at one
tick come in the order of this file; the spec lets them come in any (DESIGN CHOICE, log 15). -/

namespace Sys2Proof.Machine

/-- A timer that may run has reached its length. -/
def dueBy (t : Option Timer) (clock : Nat) : Bool := t.any (·.due clock)

/-- A command, if a condition holds. -/
def dueWhen (b : Bool) (i : Instr) : Option Instr := if b then some i else none

/-- A line is free: every frame sent on it has ended. -/
def lineFree (line : List Sending) (clock : Nat) : Bool := line.all fun x => decide (x.endsAt ≤ clock)

/-- The output line of a backbone port. -/
def State.line (s : State) : BackbonePort → List Sending
  | .u => s.port.lineU
  | .d => s.port.lineD

/-- A free backbone port with a frame waiting is granted (R155). -/
def State.grantDue (s : State) (p : BackbonePort) : Option Instr :=
  dueWhen (lineFree (s.line p) s.clock && ((s.ownOutput p).isSome || (s.passOutput p).isSome)) (.portOutputGrant p)

/-- An engine's next visit: the sweep takes at most 20 ms (R11), and the pass goes on sign by sign (R121). -/
def State.engineDue (s : State) : Option Instr :=
  (dueWhen s.sup.sweep.isSome .sweepVisit).or (dueWhen s.sign.pass.isSome .signPassVisit)

/-- A timer of the Order, Port or Supervision Unit that is due. -/
def State.partDue (s : State) : Option Instr :=
  ((dueWhen (dueBy s.order.confirmTimer s.clock) .confirmationTimerExpiry).or
    (dueWhen (dueBy s.port.beatTimer s.clock) .beatTimerExpiry)).or
    (dueWhen (dueBy s.sup.periodTimer s.clock) .periodBoundary)

/-- A timer of a zone that is due. -/
def State.zoneDue (s : State) (z : Nat) : Option Instr :=
  (((dueWhen (dueBy (s.zoneRecord z).window s.clock) (.doubleKnockWindowExpiry z)).or
    (dueWhen (dueBy (s.zoneRecord z).walk s.clock) (.walkTestTimerExpiry z))).or
    (dueWhen (dueBy (s.guardRecord z).exitTimer s.clock) (.exitDelayExpiry z))).or
    (dueWhen (dueBy (s.guardRecord z).entryTimer s.clock) (.entryDelayExpiry z))

/-- Compare A of a door's held timer is reached and its notice still to come (R69). -/
def State.heldADue (s : State) (d : Nat) : Bool :=
  let r := s.doorRecord d
  let e := s.doorEntry d
  !r.heldReached && decide (e.heldA < e.heldB) && r.heldTimer.any fun t => decide (t.start + seconds e.heldA ≤ s.clock)

/-- A timer of a door that is due. -/
def State.doorDue (s : State) (d : Nat) : Option Instr :=
  ((dueWhen (dueBy (s.doorRecord d).pulseTimer s.clock) (.pulseTimerExpiry d)).or
    (dueWhen (s.heldADue d) (.heldCompareA d))).or
    (dueWhen (dueBy (s.doorRecord d).heldTimer s.clock) (.heldCompareB d))

/-- The escalation timer of a call that is due (R111). -/
def Call.dueAt (c : Call) (clock : Nat) : Option Instr :=
  match c.timer with
  | none => none
  | some t =>
    (dueWhen (t.stepDue && decide (t.start + seconds t.stepA ≤ clock)) (.escalationStep c.number)).or
      (dueWhen (decide (t.start + seconds t.cycleB ≤ clock)) (.escalationCycleEnd c.number))

/-- The command that is due now, if there is one. -/
def State.dueNow (s : State) : Option Instr :=
  (((((s.engineDue.or s.partDue).or (zoneNumbers.findSome? s.zoneDue)).or (doorNumbers.findSome? s.doorDue)).or
    (s.call.calls.findSome? fun c => c.dueAt s.clock)).or (s.grantDue .u)).or (s.grantDue .d)

/-- A line without the frames whose send has ended. -/
def stillSending (line : List Sending) (clock : Nat) : List Sending := line.filter fun x => decide (clock < x.endsAt)

/-- A tick: the clock moves on by one, and frames whose send has ended leave their lines. -/
def State.tick (s : State) : State :=
  let t := s.clock + 1
  { s with
    clock := t
    port.lineU := stillSending s.port.lineU t
    port.lineD := stillSending s.port.lineD t
    port.lineF := stillSending s.port.lineF t }

end Sys2Proof.Machine
end

