-- ==== Sys2Proof/Machine/Supervision.lean ====
section
/-! DEFINITION. The Supervision Unit (chapter 1): presence sets, the period boundary, the sweep's visit to a device,
MISSING and restoration and what the owning units make of them, and the drift step taken at the sweep. -/

namespace Sys2Proof.Machine

/-! ### Presence sets (R9) -/

/-- The other presence set. -/
def PresenceSet.other : PresenceSet → PresenceSet
  | .a => .b
  | .b => .a

/-- A device's mark in a presence set. -/
def State.mark (s : State) (p : PresenceSet) (d : Nat) : Bool :=
  match p with
  | .a => slot s.sup.setA d false
  | .b => slot s.sup.setB d false

/-- A device's mark in a presence set, set or cleared. -/
def State.putMark (s : State) (p : PresenceSet) (d : Nat) (b : Bool) : State :=
  match p with
  | .a => { s with sup.setA := place s.sup.setA d b }
  | .b => { s with sup.setB := place s.sup.setB d b }

/-- The device is marked in the set in use (R9). -/
def State.markInUse (s : State) (d : Nat) : State := s.putMark s.sup.selector d true

/-! ### History (R11) -/

/-- A period enters a history at the front; the oldest leaves at the back (R11). -/
def shiftHistory (h : List Bool) (seen : Bool) : List Bool := (seen :: h).take 6

/-- The not-seen count of a history (R11). -/
def notSeen (h : List Bool) : Nat := h.count false

/-! ### What the owning units make of MISSING (R14, R15) -/

/-- The Detector Evaluator is told that a device is MISSING (R34). -/
def State.detectorMissing (s : State) (d : Nat) : State :=
  if s.enabledAs d .smoke || s.enabledAs d .heat then
    s.putDetector d ((s.detector d).map Detector.becomeMissing)
  else s

/-- The Door Unit is told that a module is MISSING (R76). -/
def State.moduleMissing (s : State) (d : Nat) : State :=
  match s.doorOfModule d with
  | some n => s.faultDoor n .missing
  | none => s

/-- The Sign Unit is told that a sign device is MISSING: the sign is marked owed (R128). -/
def State.signMissing (s : State) (d : Nat) : State :=
  match s.signOfDevice d with
  | some n => s.oweSign n true
  | none => s

/-- The Door or Sign Unit is told that a device of its own is MISSING; the owed mark of a sign calls for a service
(R14, R137). A detector is judged before its TROUBLE notice is sent, and nothing more is asked of MCP, MOTION and HELP
devices. -/
def State.tellMissing (s : State) (d : Nat) : State :=
  match (s.deviceEntry d).kind with
  | some .door => s.moduleMissing d
  | some .sign => if (s.signOfDevice d).isSome then (s.signMissing d).serve else s
  | _ => s

/-- The owning unit is told that a device is no longer MISSING: a sign returns to evaluation with route-stale set, and
the restoration calls for a service of owed objects (R15, R129, R137). -/
def State.tellRestored (s : State) (d : Nat) : State :=
  match s.signOfDevice d with
  | some _ => s.setStale.serve
  | none => s.serve

/-! ### The sweep (R11 to R13) -/

/-- The device becomes MISSING at its sweep position (R12, R14, R34). -/
def State.becomeMissing (s : State) (d : Nat) : State :=
  let s1 := s.putCauses d { s.causes d with missing := true }
  if s.running then ((s1.detectorMissing d).tellTrouble d).tellMissing d else s1.tellTrouble d

/-- The device is restored at its sweep position (R13, R15). -/
def State.restoreDevice (s : State) (d : Nat) : State :=
  let s1 := (s.putCauses d { s.causes d with missing := false }).tellTrouble d
  if s.running then s1.tellRestored d else s1

/-- The drift step of a SMOKE detector in RUNNING (R11, R36 to R38). The whole step is one event: COMP_LIMIT brought in
by the limit adjustment and taken out again by the movement leaves the set as it was, and no TROUBLE notice is sent
(DESIGN CHOICE, log 40). -/
def State.drift (s : State) (d : Nat) : State :=
  if s.running && s.enabledAs d .smoke then
    match s.detector d with
    | none => s
    | some det =>
      let x := det.driftStep (s.classEntry (s.deviceEntry d).cls) (s.causes d).compLimit
      (s.putDetector d (some x.1)).changeCauses d { s.causes d with compLimit := x.2 }
  else s

/-- The judgement of MISSING and restoration, when a period has been shifted in (R12, R13). -/
def State.judgeMissing (s : State) (d : Nat) (seen : Bool) : State :=
  let n := notSeen (s.device d).history
  if !s.missing d then
    if s.sup.missingLimit ≤ n then s.becomeMissing d else s
  else if seen && decide (n < s.sup.missingLimit) then s.restoreDevice d
  else s

/-- What the sweep does at one device (R11, step 2). A restoration and a COMP_LIMIT change of the drift step at one visit
each send their TROUBLE notice (R13, R38; DEDUCED, log 29). -/
def State.sweepDevice (s : State) (d : Nat) : State :=
  let retired := s.sup.selector.other
  let seen := s.mark retired d
  let s1 := s.putMark retired d false
  if (s.deviceEntry d).enabled then
    let s2 := s1.putDevice d { s1.device d with history := shiftHistory (s1.device d).history seen }
    (s2.judgeMissing d seen).drift d
  else s1

/-- The sweep moves on from a device; after device 126 it ends (R11, step 3). -/
def State.sweepOn (s : State) (d : Nat) : State :=
  { s with sup.sweep := if d < 126 then some (d + 1) else none }

/-- The sweep reaches its next device (R11). -/
def State.visit (s : State) : State :=
  match s.sup.sweep with
  | some d => (s.sweepDevice d).sweepOn d
  | none => s

/-- So many visits of the sweep. -/
def State.visits : Nat → State → State
  | 0, s => s
  | k + 1, s => visits k s.visit

/-! ### The period boundary (R10, R11, R77, R126) -/

/-- A period boundary marks a door owed: it is enabled and in FAULT, and its module is not MISSING (R77). -/
def State.faultDoorDue (s : State) (d : Nat) : Bool :=
  (s.doorEntry d).enabled && (s.doorRecord d).state == some .fault && !s.missing (s.doorEntry d).module

/-- A period boundary marks a sign owed: it is enabled and in FAULT, and its device is not MISSING (R126). -/
def State.faultSignDue (s : State) (n : Nat) : Bool :=
  (s.signEntry n).enabled && (s.signRecord n).fault && !s.missing (s.signEntry n).device

/-- A period boundary marks a door or sign owed (R77, R126). -/
def State.faultsDue (s : State) : Bool := doorNumbers.any s.faultDoorDue || signNumbers.any s.faultSignDue

/-- Every enabled door in FAULT whose module is not MISSING is marked owed (R77). -/
def State.oweFaultDoors (s : State) : State :=
  doorNumbers.foldl (fun t d => if t.faultDoorDue d then t.owe d true else t) s

/-- Every enabled sign in FAULT whose device is not MISSING is marked owed (R126). -/
def State.oweFaultSigns (s : State) : State :=
  signNumbers.foldl (fun t n => if t.faultSignDue n then t.oweSign n true else t) s

/-- The marks a period boundary makes and the service they call for. Marking an object owed is an event that calls for
a service, and without a mark there is none (R137). Every door and then every sign is marked first, and one service and
one look for a send follow all the marks; a mark on an object owed already counts as the event too (DESIGN CHOICE,
log 38). -/
def State.serveFaults (s : State) : State :=
  let s' := s.oweFaultDoors.oweFaultSigns
  if s.faultsDue then s'.serve else s'

/-- The next cycle of the period timer, with the buffered period and missing limit taken up (R10). -/
def State.nextPeriod (s : State) : State :=
  let x := s.sup.buffered.getD (s.sup.period, s.sup.missingLimit)
  { s with
    sup.period := x.1
    sup.missingLimit := x.2
    sup.buffered := none
    sup.periodTimer := s.timer x.1
    sup.selector := s.sup.selector.other
    sup.sweep := some 1 }

/-- A period boundary (R10, R11, R77, R126). A sweep still to be finished is finished first: R11 has every sweep ended before the next
boundary (DESIGN CHOICE, log 10). -/
def State.boundary (s : State) : State :=
  if s.sup.periodTimer.isNone then s
  else
    let s1 := State.visits (127 - s.sup.sweep.getD 127) s
    s1.nextPeriod.serveFaults

end Sys2Proof.Machine
end

