-- ==== Sys2Proof/Machine/Outcomes.lean ====
section
/-! DEFINITION. The outcomes of orders (chapter 8): confirmation by a report, the confirmation timer's expiry, failure,
and the answers to relayed orders. -/

namespace Sys2Proof.Machine

/-- The help point that a lamp order's target is: an enabled HELP entry (R140). LAMP_FAULT is set or cleared in its
cause set, with a TROUBLE notice if the set changes (R140, R142). -/
def State.lampOutcome (s : State) (d : Nat) (fault : Bool) : State :=
  if s.enabledAs d .help then s.changeCauses d { s.causes d with lampFault := fault } else s

/-- The ANSWER to a relayed order: code 00h, the result and the bytes that follow it (R145, R177). -/
def State.answerRelay (s : State) (o : Origin) (result : Result) (extra : List Byte) : State :=
  match o with
  | .internal => s
  | .relayed p station device tag =>
    s.fill p (.forOrder station device tag)
      (answerFrame s.stationNumber station device tag ([0#8] ++ byte1 result.code ++ extra))

/-- The enabled door whose module is a target, told of an order's outcome (R140, R142). -/
def State.tellDoor (s : State) (target : Nat) (f : State → Nat → State) : State :=
  match s.doorOfModule target with
  | some d => f s d
  | none => s

/-- The enabled sign whose device is a target, told of an order's outcome (R140, R142). -/
def State.tellSign (s : State) (target : Nat) (f : State → Nat → State) : State :=
  match s.signOfDevice target with
  | some n => f s n
  | none => s

/-- The record in flight is freed and the confirmation timer stops (R140, R142). -/
def State.freeRecord (s : State) : State :=
  { s with order.pool := s.order.pool.eraseP (·.inFlight), order.confirmTimer := none }

/-- The owner of the target is told of a confirmation (R140); `report` is the confirming report's payload. -/
def State.tellConfirmed (s : State) (r : OrderRecord) (report : List Byte) : State :=
  match r.code with
  | .lock => s.tellDoor r.target fun t d => t.settingConfirmed d .lock
  | .unlock => s.tellDoor r.target fun t d => t.settingConfirmed d .unlock
  | .hold => s.tellDoor r.target fun t d => t.settingConfirmed d .hold
  | .release => s.tellDoor r.target fun t d => t.settingConfirmed d .release
  | .pulse _ => s.tellDoor r.target fun t d => t.pulseConfirmed d
  | .display x => s.tellSign r.target fun t n => t.showConfirmed n x
  | .lamp _ => s.lampOutcome r.target false
  | .raw _ => s.answerRelay r.origin .done (report.take 40)

/-- The record in flight is confirmed (R140). -/
def State.confirm (s : State) (r : OrderRecord) (report : List Byte) : State :=
  let s1 := s.freeRecord.tellConfirmed r report
  let s2 := if r.notify then s1.notify (.orderDone r.target r.code r.cls (r.attempts + 1)) else s1
  s2.serve

/-- A report with a tag is a candidate confirmation (R6): it confirms the record in flight if it comes from the
record's target with the record's tag. -/
def State.candidate (s : State) (d : Nat) (tag : Byte) (report : List Byte) : State :=
  match s.inFlight with
  | none => s
  | some r => if tag ≠ 0#8 ∧ r.target = d ∧ r.tag = some tag.toNat then s.confirm r report else s

/-- The owner of the target is told of a failure (R142). -/
def State.tellFailed (s : State) (r : OrderRecord) : State :=
  match r.code with
  | .lock => s.tellDoor r.target fun t d => t.faultDoor d .orderFailed
  | .unlock => s.tellDoor r.target fun t d => t.faultDoor d .orderFailed
  | .hold => s.tellDoor r.target fun t d => t.faultDoor d .orderFailed
  | .release => s.tellDoor r.target fun t d => t.faultDoor d .orderFailed
  | .pulse _ => s.tellDoor r.target fun t d => t.faultDoor d .orderFailed
  | .display x => s.tellSign r.target fun t n => t.showFailed n x
  | .lamp _ => s.lampOutcome r.target true
  | .raw _ =>
    let s1 := s.answerRelay r.origin .failed []
    if r.haltOnFail then { s1 with order.halt := true } else s1

/-- The record in flight fails (R142). -/
def State.fail (s : State) (r : OrderRecord) : State :=
  let s1 := s.freeRecord.count .ordersFailed
  let s2 := s1.notify (.orderFailed r.target r.code r.cls r.origin (r.haltOnFail && !s.order.halt))
  (s2.tellFailed r).serve

/-- The record in flight is sent again with the same tag, and the confirmation timer starts again (R141). -/
def State.resend (s : State) (r : OrderRecord) : State :=
  { s with
    order.pool := replaceFirst (·.inFlight) r s.order.pool
    order.confirmTimer := s.confirmation
  }.sendField (orderFrame s.stationNumber r)

/-- The confirmation timer expires (R141). -/
def State.confirmationExpiry (s : State) : State :=
  match s.inFlight with
  | none => s
  | some r =>
    let r' := { r with attempts := r.attempts + 1 }
    if r'.attempts < Config.maxAttempts then s.resend r' else s.fail r'

end Sys2Proof.Machine
end

