-- ==== Sys2Proof/Machine/Entries.lean ====
section
/-! DEFINITION. Table entries as bytes (chapter 11): the six tables, reading an entry with its range checks (R1, R17,
R41, R59, R119, R167), and writing one as READ-TABLE and READ-STATE give it (R169, R178). -/

namespace Sys2Proof.Machine

/-- The six tables (R166). -/
inductive Table where
  | wing | zone | device | cls | door | sign
deriving DecidableEq, Repr

/-- Table codes (chapter 11). -/
def Table.ofCode (n : Nat) : Option Table :=
  match n with
  | 0 => some .wing
  | 1 => some .zone
  | 2 => some .device
  | 3 => some .cls
  | 4 => some .door
  | 5 => some .sign
  | _ => none

/-- Table codes (chapter 11). -/
def Table.code : Table → Nat
  | .wing => 0
  | .zone => 1
  | .device => 2
  | .cls => 3
  | .door => 4
  | .sign => 5

/-- Entry sizes in bytes (chapter 11). -/
def Table.size : Table → Nat
  | .wing => 33
  | .zone => 3
  | .device => 3
  | .cls => 22
  | .door => 9
  | .sign => 31

/-- The first index of a table (R166). -/
def Table.first : Table → Nat
  | .wing => 0
  | .zone => 1
  | .device => 1
  | .cls => 0
  | .door => 0
  | .sign => 0

/-- The last index of a table (R166). -/
def Table.last : Table → Nat
  | .wing => 0
  | .zone => 24
  | .device => 126
  | .cls => 7
  | .door => 31
  | .sign => 47

/-- An index lies in a table (R166). -/
def Table.has (t : Table) (i : Nat) : Bool := decide (t.first ≤ i) && decide (i ≤ t.last)

/-! ### Reading entries -/

/-- A number lies in a range, both ends included. -/
def within (lo hi n : Nat) : Bool := decide (lo ≤ n) && decide (n ≤ hi)

/-- A permission map with the ignored bits of devices 0 and 127 clear (R178). -/
def clearIgnored (map : List Byte) : List Byte :=
  (map.zip (0x7F#8 :: List.replicate 14 0xFF#8 ++ [0xFE#8])).map fun x => x.1 &&& x.2

/-- A wing record within its ranges (R167). -/
def readWing (bytes : List Byte) : Option WingRecord :=
  match bytes with
  | per :: lim :: beat :: kw1 :: kw0 :: walk :: sa1 :: sa0 :: cb1 :: cb0 :: ab :: ub :: ex :: en :: wm :: mask :: pt
      :: map =>
    if within 2 60 per.toNat && within 1 6 lim.toNat && within 0 60 beat.toNat && within 30 600 (read2 kw1 kw0)
        && within 1 240 walk.toNat && within 0 3600 (read2 sa1 sa0) && within 10 3600 (read2 cb1 cb0)
        && within 0 7 ab.toNat && within 0 7 ub.toNat && within 1 30 pt.toNat && map.length == 16 then
      (WatchMode.ofCode wm.toNat).map fun m =>
        { loaded := true
          period := per.toNat
          missingLimit := lim.toNat
          beatTimeout := beat.toNat
          knockWindow := read2 kw1 kw0
          walkLimit := walk.toNat
          stepA := read2 sa1 sa0
          cycleB := read2 cb1 cb0
          assistBase := ab.toNat
          urgentBase := ub.toNat
          exitDelay := ex.toNat
          entryDelay := en.toNat
          watchMode := m
          watchMask := mask
          pulseTime := pt.toNat
          permission := clearIgnored map
          asLoaded := bytes }
    else none
  | _ => none

/-- A zone entry with its kind and mode among their values (R41). -/
def readZone (bytes : List Byte) : Option ZoneEntry :=
  match bytes with
  | [b, k, m] =>
    match ZoneKind.ofCode k.toNat, Coincidence.ofCode m.toNat with
    | some kind, some mode => some ⟨b.getLsbD 7, kind, mode, b.getLsbD 6, bytes⟩
    | _, _ => none
  | _ => none

/-- A device entry with its fields in their ranges (R1). -/
def readDevice (bytes : List Byte) : Option DeviceEntry :=
  match bytes with
  | [b, z, c] =>
    match DeviceKind.ofCode (b.extractLsb' 0 4).toNat with
    | some kind =>
      if within 1 24 z.toNat && within 0 7 c.toNat then
        some ⟨b.getLsbD 7, some kind, z.toNat, c.toNat, bytes⟩
      else none
    | none => none
  | _ => none

/-- A judgement set within its ranges (R17). -/
def JudgeSet.ok (j : JudgeSet) (top : Nat) : Bool :=
  within 0 3 j.s && within 1 top j.p && decide (j.p < j.a) && decide (j.a ≤ top) && within 1 7 j.v

/-- The highest count of a detector kind's class fields: 1022 for SMOKE and 254 for HEAT (R17). -/
def DetectorKind.topCount : DetectorKind → Nat
  | .smoke => 1022
  | .heat => 254

/-- A class entry within its ranges (R17). -/
def readClass (bytes : List Byte) : Option ClassEntry :=
  match bytes with
  | [b, l1, l0, b1, b0, n1, n0, x1, x0, w, ds, dp1, dp0, da1, da0, dv, ns, np1, np0, na1, na0, nv] =>
    match DetectorKind.ofCode (b.extractLsb' 0 2).toNat with
    | none => none
    | some kind =>
      let top := kind.topCount
      let day : JudgeSet := ⟨ds.toNat, read2 dp1 dp0, read2 da1 da0, dv.toNat⟩
      let night : JudgeSet := ⟨ns.toNat, read2 np1 np0, read2 na1 na0, nv.toNat⟩
      if within 0 top (read2 l1 l0) && within 1 top (read2 b1 b0) && within 1 top (read2 n1 n0)
          && within 1 top (read2 x1 x0) && decide (read2 n1 n0 ≤ read2 b1 b0)
          && decide (read2 b1 b0 ≤ read2 x1 x0) && within 1 255 w.toNat && day.ok top && night.ok top
          && !(kind == .heat && b.getLsbD 7) then
        some ⟨true, some kind, b.getLsbD 7, read2 l1 l0, read2 b1 b0, read2 n1 n0, read2 x1 x0, w.toNat, day, night,
          bytes⟩
      else none
  | _ => none

/-- A door entry within its ranges (R59). -/
def readDoor (bytes : List Byte) : Option DoorEntry :=
  match bytes with
  | [b, m, k, za, zb, a1, a0, b1, b0] =>
    match DoorKind.ofCode k.toNat with
    | none => none
    | some kind =>
      if within 1 126 m.toNat && within 0 24 za.toNat && within 0 24 zb.toNat && za.toNat != zb.toNat
          && !(b.getLsbD 6 && kind != .secure) && within 0 3600 (read2 a1 a0) && within 1 3600 (read2 b1 b0) then
        some ⟨b.getLsbD 7, b.getLsbD 6, b.getLsbD 5, m.toNat, kind, za.toNat, zb.toNat, read2 a1 a0, read2 b1 b0,
          bytes⟩
      else none
  | _ => none

/-- No member of a list stands in it twice. -/
def noRepeats : List Nat → Bool
  | [] => true
  | x :: rest => !rest.contains x && noRepeats rest

/-- An option slot of seven bytes: empty, or an option within its ranges (R119, R178). -/
def readSlot (bytes : List Byte) : Option (Option SignOption) :=
  match bytes with
  | [a, z1, z2, z3, z4, d1, d2] =>
    if a = 0#8 then some none
    else
      match Arrow.ofSlotCode a.toNat with
      | none => none
      | some arrow =>
        let zones := ([z1, z2, z3, z4].filter (· != 0#8)).map (·.toNat)
        let doors := ([d1, d2].filter (· != 0xFF#8)).map (·.toNat)
        if zones.all (within 1 24) && noRepeats zones && doors.all (within 0 31) && noRepeats doors then
          some (some ⟨arrow, zones, doors⟩)
        else none
  | _ => none

/-- A sign entry within its ranges: its default option names a slot that is not empty, and no two options hold the same
arrow (R119). -/
def readSign (bytes : List Byte) : Option SignEntry :=
  match bytes with
  | b :: dev :: dflt :: slots =>
    match readSlot (slots.take 7), readSlot ((slots.drop 7).take 7), readSlot ((slots.drop 14).take 7),
      readSlot (slots.drop 21) with
    | some s1, some s2, some s3, some s4 =>
      let all := [s1, s2, s3, s4]
      if within 1 126 dev.toNat && within 1 4 dflt.toNat && (all[dflt.toNat - 1]?).join.isSome
          && noRepeats ((all.filterMap id).map fun o => o.arrow.slotCode) then
        some ⟨b.getLsbD 7, dev.toNat, dflt.toNat, all, bytes⟩
      else none
    | _, _, _, _ => none
  | _ => none

/-! ### Writing entries -/

/-- The bits of a first byte: bit 7, bit 6, bit 5 and a low code. -/
def topBits (b7 b6 b5 : Bool) (low : Nat) : List Byte :=
  byte1 ((if b7 then 0x80 else 0) + (if b6 then 0x40 else 0) + (if b5 then 0x20 else 0) + low)

/-- A wing record with its ignored bits clear. -/
def WingRecord.bytes (w : WingRecord) : List Byte :=
  byte1 w.period ++ byte1 w.missingLimit ++ byte1 w.beatTimeout ++ byte2 w.knockWindow ++ byte1 w.walkLimit
    ++ byte2 w.stepA ++ byte2 w.cycleB ++ byte1 w.assistBase ++ byte1 w.urgentBase ++ byte1 w.exitDelay
    ++ byte1 w.entryDelay ++ byte1 w.watchMode.code ++ [w.watchMask] ++ byte1 w.pulseTime ++ w.permission

/-- A zone entry with its ignored bits clear. -/
def ZoneEntry.bytes (e : ZoneEntry) : List Byte :=
  topBits e.enabled e.counted false 0 ++ byte1 e.kind.code ++ byte1 e.mode.code

/-- A device entry with its ignored bits clear. -/
def DeviceEntry.bytes (e : DeviceEntry) : List Byte :=
  topBits e.enabled false false (DeviceKind.code e.kind) ++ byte1 e.zone ++ byte1 e.cls

/-- A judgement set. -/
def JudgeSet.bytes (j : JudgeSet) : List Byte := byte1 j.s ++ byte2 j.p ++ byte2 j.a ++ byte1 j.v

/-- A class entry with its ignored bits clear. -/
def ClassEntry.bytes (c : ClassEntry) : List Byte :=
  topBits c.drift false false (DetectorKind.code c.kind) ++ byte2 c.floor ++ byte2 c.b0 ++ byte2 c.bmin ++ byte2 c.bmax
    ++ byte1 c.window ++ c.day.bytes ++ c.night.bytes

/-- A door entry with its ignored bits clear. -/
def DoorEntry.bytes (e : DoorEntry) : List Byte :=
  topBits e.enabled e.fireRelease e.entryDoor 0 ++ byte1 e.module ++ byte1 e.kind.code ++ byte1 e.sideA
    ++ byte1 e.sideB ++ byte2 e.heldA ++ byte2 e.heldB

/-- A list of bytes filled up to a length. -/
def padTo (n : Nat) (fill : Byte) (l : List Byte) : List Byte := l ++ List.replicate (n - l.length) fill

/-- An option slot as a sign's record shows it: the members of each list first and the bytes that fill it up after them,
wherever the gaps of the loaded entry stood (DESIGN CHOICE, log 37); an empty slot is the arrow 00h and six bytes of
zero, whatever ignored bytes it was loaded with (DESIGN CHOICE, log 45; R131, R178). -/
def slotBytes : Option SignOption → List Byte
  | none => List.replicate 7 0#8
  | some o =>
    byte1 o.arrow.slotCode ++ padTo 4 0#8 (o.zones.flatMap byte1) ++ padTo 2 0xFF#8 (o.doors.flatMap byte1)

/-- The bytes of an option slot as loaded, its list bytes where they stood; those of an empty slot after its arrow are
ignored ones, and clear here (R178). -/
def clearSlot (bytes : List Byte) : List Byte :=
  if bytes.head? = some 0#8 then List.replicate bytes.length 0#8 else bytes

/-- A sign entry as it was loaded, with its ignored bits and bytes clear. -/
def SignEntry.bytes (e : SignEntry) : List Byte :=
  match e.asLoaded with
  | b :: device :: dflt :: slots =>
    (b &&& 0x80#8) :: device :: dflt
      :: (clearSlot (slots.take 7) ++ clearSlot ((slots.drop 7).take 7) ++ clearSlot ((slots.drop 14).take 7)
        ++ clearSlot (slots.drop 21))
  | short => short

/-- A stored entry as it reads: where the bytes it was loaded with differ from those of its fields, in bits that R178
ignores, the free value says which is given (log 6). -/
def readBack (table : Nat) : Nat → List Byte → List Byte → List Byte
  | i, c :: canon, l :: loaded =>
    (if c = l then c else if Config.keepsIgnored table i then l else c) :: readBack table (i + 1) canon loaded
  | _, canon, [] => canon
  | _, [], _ => []

/-- One entry of a table as READ-TABLE gives it; the wing record carries its loaded mark (R169). -/
def State.entryBytes (s : State) (t : Table) (i : Nat) : List Byte :=
  match t with
  | .wing => flagByte s.mgmt.wing.loaded ++ readBack 0 0 s.mgmt.wing.bytes s.mgmt.wing.asLoaded
  | .zone => readBack 1 0 (s.zoneEntry i).bytes (s.zoneEntry i).asLoaded
  | .device => readBack 2 0 (s.deviceEntry i).bytes (s.deviceEntry i).asLoaded
  | .cls => readBack 3 0 (s.classEntry i).bytes (s.classEntry i).asLoaded
  | .door => readBack 4 0 (s.doorEntry i).bytes (s.doorEntry i).asLoaded
  | .sign => readBack 5 0 (s.signEntry i).bytes (s.signEntry i).asLoaded

end Sys2Proof.Machine
end

