-- ==== Sys2Proof/Machine/Reading.lean ====
section
/-! DEFINITION. What READ-STATE answers: the records of devices, zones, doors, signs and calls, the fire zone list and
the part summary (R16, R40, R49, R57, R83, R96, R118, R131, R170), laid out by R179. Where two fields share a line of
their rule, each is written as its own field in the order named; a count or place the rule gives no range for is one byte
(DEDUCED, log 20). -/

namespace Sys2Proof.Machine

/-- The place of the first member of a list that satisfies a test, counting from 1: R118 says so of calls, and the place
of a zone in the fire zone list, which R57 leaves open, counts in the same way (DEDUCED, log 32). -/
def placeOf {α : Type} (p : α → Bool) (l : List α) : Option Nat := (l.findIdx? p).map (· + 1)

/-- A classification, compare or other code in one byte, or none. -/
def codeOrNone {α : Type} (code : α → Nat) (o : Option α) : List Byte := orNone1 (o.map code)

/-- Seconds left on a timer that runs (R57, R83, R96, R170). The field of a timer that does not run stands in its place
and reads FFFFh (DESIGN CHOICE, log 42). -/
def secondsLeft (t : Option Timer) (clock : Nat) : List Byte := orNone2 (t.map (·.left clock 1))

/-! ### Devices (R16, R40, R96, R118) -/

/-- The supervision part of a device's record (R16). -/
def State.devicePart (s : State) (d : Nat) : List Byte :=
  let e := s.deviceEntry d
  let r := s.device d
  flagByte e.enabled ++ byte1 (DeviceKind.code e.kind) ++ byte1 e.zone ++ flagByte (s.mark s.sup.selector d)
    ++ byte1 (historyCode r.history) ++ byte1 (notSeen r.history) ++ flagByte r.causes.missing ++ byte1 r.causes.code

/-- The detector part of a device's record (R40). -/
def Detector.bytes (d : Detector) : List Byte :=
  byte1 d.state.code ++ byte1 d.verify ++ byte2 d.baseline ++ byte2 d.limitLow ++ byte2 d.limitHigh
    ++ byte2Int d.filtered ++ byte1 d.lastClass.code ++ byte1 d.lastCompare.code ++ orNone2 d.lastNormal
    ++ codeOrNone WingMode.code d.lastSet

/-- What a device's record holds beside its supervision part, by its kind (R170). -/
def State.kindPart (s : State) (d : Nat) : List Byte :=
  match (s.deviceEntry d).kind with
  | some .smoke => (s.detector d).elim [] Detector.bytes
  | some .heat => (s.detector d).elim [] Detector.bytes
  | some .motion => flagByte (s.motionFlag d)
  | some .help => orNone1 ((s.callOf d).map (·.number))
  | some .mcp => []
  | some .door => []
  | some .sign => []
  | none => []

/-- The record of a device (R16). -/
def State.deviceBytes (s : State) (d : Nat) : List Byte := s.devicePart d ++ s.kindPart d

/-! ### Zones (R57, R96) -/

/-- The guard part of a zone's record (R96). -/
def State.guardBytes (s : State) (z : Nat) : List Byte :=
  let r := s.guardRecord z
  byte1 r.state.code ++ secondsLeft (r.exitTimer.or r.entryTimer) s.clock ++ orNone1 r.entering
    ++ orNone1 (r.source.map (·.1.code)) ++ orNone1 (r.source.map (·.2)) ++ byte1 r.further

/-- The record of a zone (R57), with FFFFh for the time of a timer that does not run (DESIGN CHOICE, log 42). -/
def State.zoneBytes (s : State) (z : Nat) : List Byte :=
  let e := s.zoneEntry z
  let r := s.zoneRecord z
  let o := s.occupancy z
  flagByte e.enabled ++ byte1 e.kind.code ++ byte1 e.mode.code ++ flagByte e.counted ++ byte1 r.fire.code
    ++ byte1 r.fire.demand.code ++ secondsLeft r.window s.clock ++ orNone2 (r.walk.map (·.left s.clock 60))
    ++ orNone1 r.cause ++ byte1 (s.alarmDetectors z).length ++ orNone1 (placeOf (· == z) s.zone.fireList)
    ++ byte1 (s.troubleCount z) ++ s.guardBytes z ++ byte2 o.count ++ byte1 o.undercount ++ byte1 o.overcount

/-! ### Doors (R83) -/

/-- A door's entry as its record shows it (R83). -/
def DoorEntry.recordBytes (e : DoorEntry) : List Byte :=
  flagByte e.enabled ++ byte1 e.module ++ byte1 e.kind.code ++ byte1 e.sideA ++ byte1 e.sideB ++ flagByte e.fireRelease
    ++ flagByte e.entryDoor ++ byte2 e.heldA ++ byte2 e.heldB

/-- An order code is one that a door's module is sent by the Door Unit. -/
def isDoorOrder (r : OrderRecord) : Bool :=
  r.code.family == .lock || r.code.family == .magnet || r.code.family == .pulse

/-- An order of the Door Unit to a door's module waits, or is in flight (R83). -/
def State.doorOrderStands (s : State) (d : Nat) (flying : Bool) : Bool :=
  s.order.pool.any fun r => r.inFlight == flying && r.target == (s.doorEntry d).module && isDoorOrder r

/-- The record of a door, its times in seconds as the door record's table has them, and FFFFh for a timer that does not
run (DESIGN CHOICE, log 42); a disabled door is its entry alone (R83). -/
def State.doorBytes (s : State) (d : Nat) : List Byte :=
  let e := s.doorEntry d
  let r := s.doorRecord d
  if e.enabled then
    e.recordBytes ++ codeOrNone DoorState.code r.state ++ flagByte (s.passable d) ++ byte1 r.desired.code
      ++ byte1 r.cause.code ++ codeOrNone Setting.code r.commanded ++ codeOrNone Contact.code r.contact
      ++ codeOrNone LockFeedback.code r.feedback ++ flagByte r.exitFlag ++ flagByte r.latch
      ++ codeOrNone FaultCause.code r.fault ++ byte1 r.window.code ++ secondsLeft r.pulseTimer s.clock
      ++ orNone2 (r.heldTimer.map fun t => inUnits (s.clock - t.start) (seconds 1))
      ++ flagByte (s.doorOrderStands d false) ++ flagByte (s.doorOrderStands d true) ++ flagByte r.owed
  else e.recordBytes

/-! ### Signs (R131) -/

/-- A sign's entry as its record shows it, each slot's members before its fill bytes (R131, log 37). -/
def SignEntry.recordBytes (e : SignEntry) : List Byte :=
  flagByte e.enabled ++ byte1 e.device ++ byte1 e.default ++ e.slots.flatMap slotBytes

/-- The arrow a display shows. -/
def Display.arrow : Display → Option Arrow
  | .dark => none
  | .cross => none
  | .steady a => some a
  | .flashing a => some a

/-- The option slot, 1 to 4, that a display came from: the one that holds its arrow; none for CROSS (R119, R131). -/
def SignEntry.slotOf (e : SignEntry) (d : Option Display) : Option Nat :=
  match d.bind Display.arrow with
  | none => none
  | some a => placeOf (fun o => (o.map (·.arrow)) == some a) e.slots

/-- The record of a sign; a disabled sign is its entry alone (R131). -/
def State.signBytes (s : State) (n : Nat) : List Byte :=
  let e := s.signEntry n
  let r := s.signRecord n
  if e.enabled then
    e.recordBytes ++ codeOrNone Display.code r.desired ++ orNone1 (e.slotOf r.desired)
      ++ codeOrNone Display.code r.commanded ++ codeOrNone Display.code (s.prospective n)
      ++ codeOrNone Display.code r.echo ++ flagByte r.fault ++ flagByte (s.missing e.device)
      ++ flagByte (s.causes e.device).signFault
      ++ flagByte ((s.waitingFor e.device .display).isSome || (s.flyingFor e.device .display).isSome)
      ++ flagByte r.owed
  else e.recordBytes

/-! ### Calls (R118) -/

/-- The time left to a call's next step in its cycle, in seconds (DESIGN CHOICE, log 36), or none where no step is left
in it (R118). -/
def Escalation.stepLeft (t : Escalation) (clock : Nat) : Option Nat :=
  if t.stepDue then some (inUnits (t.start + seconds t.stepA - clock) (seconds 1)) else none

/-- The timer fields of a call's record: whether it runs, and if so the times left to its step and to its end and the
cycles completed (R118). Where it is stopped, and R118 gives no more than that, the three fields stand in their places
and read FFFFh, FFFFh and FFh, the last of them also a count that has reached 255 (DESIGN CHOICE, log 42). The times are
in seconds (DESIGN CHOICE, log 36). -/
def Call.timerBytes (c : Call) (clock : Nat) : List Byte :=
  match c.timer with
  | some t =>
    flagByte true ++ orNone2 (t.stepLeft clock) ++ byte2 (inUnits (t.start + seconds t.cycleB - clock) (seconds 1))
      ++ byte1 c.cycles
  | none => flagByte false ++ byte2 0xFFFF ++ byte2 0xFFFF ++ byte1 0xFF

/-- The record of a live call (R118). -/
def State.callBytes (s : State) (c : Call) : List Byte :=
  byte1 c.number ++ byte1 c.point ++ byte1 c.zone ++ byte1 c.kind.code ++ byte1 c.priority ++ byte1 c.state.code
    ++ byte1 c.press ++ flagByte c.trapped ++ flagByte c.unanswered
    ++ orNone1 (placeOf (·.number == c.number) (queueOrder s.call.calls)) ++ c.timerBytes s.clock

/-! ### The fire zone list and the part summary (R49, R170) -/

/-- The fire zone list: its count, then its zones in order (R49, R179). -/
def State.fireListBytes (s : State) : List Byte := byte1 s.zone.fireList.length ++ s.zone.fireList.flatMap byte1

/-- The record in flight in the part summary: target, code, class and attempts, or four bytes of none (R146). -/
def inFlightBytes (r : Option OrderRecord) : List Byte :=
  match r with
  | some r => byte1 r.target ++ r.code.bytes ++ byte1 r.cls ++ byte1 r.attempts
  | none => List.replicate 4 0xFF#8

/-- The number of enabled signs whose desired display is CROSS. -/
def State.crossedSigns (s : State) : Nat :=
  (signNumbers.filter fun n => (s.signEntry n).enabled && (s.signRecord n).desired == some .cross).length

/-- The part summary (R170), with the time to the next period boundary in seconds (DESIGN CHOICE, log 36), FFFFh while
the period timer is idle (DESIGN CHOICE, log 42). The state of the beat timer, which no table of chapter 11 codes, is one
byte: 1 while it runs and 0 while it is idle (DESIGN CHOICE, log 43). -/
def State.summaryBytes (s : State) : List Byte :=
  byte1 s.mgmt.part.code ++ byte1 s.stationNumber.toNat ++ byte1 s.mgmt.mode.code ++ flagByte s.mgmt.wing.loaded
    ++ secondsLeft s.sup.periodTimer s.clock
    ++ flagByte s.zone.evacuation ++ flagByte s.zone.routeStale ++ orNone1 s.zone.fireList.head?
    ++ byte1 s.zone.fireList.length
    ++ byte1 s.call.attention ++ byte1 s.call.calls.length ++ orNone1 (s.offeredCall.map (·.number))
    ++ byte1 s.crossedSigns
    ++ byte1 (classCount s.order.pool 0) ++ byte1 (classCount s.order.pool 1) ++ byte1 (classCount s.order.pool 2)
    ++ inFlightBytes s.inFlight ++ flagByte s.order.halt
    ++ byte1 (doorNumbers.filter fun d => (s.doorRecord d).owed).length
    ++ byte1 (signNumbers.filter fun n => (s.signRecord n).owed).length
    ++ byte1 s.port.link.code ++ flagByte s.port.beatTimer.isSome ++ flagByte s.port.pause

/-! ### The object named (R170) -/

/-- The record of the object a READ-STATE names, or the result that refuses it (R170). -/
def State.readObject (s : State) (object index : Nat) : Except Result (List Byte) :=
  match object with
  | 0 => if 1 ≤ index ∧ index ≤ 126 then .ok (s.deviceBytes index) else .error .badIndex
  | 1 => if 1 ≤ index ∧ index ≤ 24 then .ok (s.zoneBytes index) else .error .badIndex
  | 2 => if index ≤ 31 then .ok (s.doorBytes index) else .error .badIndex
  | 3 => if index ≤ 47 then .ok (s.signBytes index) else .error .badIndex
  | 4 =>
    match s.liveCall index with
    | some c => .ok (s.callBytes c)
    | none => .error .badIndex
  | 5 => .ok s.fireListBytes
  | 6 => .ok s.summaryBytes
  | _ => .error .badRequest

end Sys2Proof.Machine
end

