-- ==== Sys2Proof/Machine/Restart.lean ====
section
/-! DEFINITION. The entry to RUNNING and the hot start: each unit's part of them, in the order of R171 and R173. -/

namespace Sys2Proof.Machine

/-! ### Entry to RUNNING (R171) -/

/-- The owning unit of one enabled device that is MISSING is told of it (R15, R171, step 2). Several such devices are
told of in rising device number (DESIGN CHOICE, log 44). -/
def State.handOnMissing (s : State) (d : Nat) : State :=
  if (s.deviceEntry d).enabled && s.missing d then ((s.detectorMissing d).moduleMissing d).signMissing d else s

/-- One enabled door is given its desired setting, its settled state unless it is in FAULT, and its owed mark (R171,
step 3). -/
def State.startDoor (s : State) (d : Nat) : State :=
  if (s.doorEntry d).enabled then
    let s1 := s.keepDesired d
    let s2 := if (s1.doorRecord d).state = some .fault then s1 else s1.settle d
    s2.owe d true
  else s

/-- One enabled sign is marked owed (R129, R171, step 4). -/
def State.startSign (s : State) (n : Nat) : State := if (s.signEntry n).enabled then s.oweSign n true else s

/-- The part enters RUNNING with a wing mode, by the five steps of R171; step 2 takes the devices in rising device number
(DESIGN CHOICE, log 44). -/
def State.enterRunning (s : State) (m : WingMode) : State :=
  let s1 := { s with mgmt.mode := m, mgmt.part := .running }
  let s2 := deviceNumbers.foldl State.handOnMissing s1
  let s3 := doorNumbers.foldl State.startDoor s2
  let s4 := (signNumbers.foldl State.startSign s3).setStale
  s4.serve

/-! ### Hot start, unit by unit (R173) -/

/-- A running timer started again at the length it has. -/
def Timer.again (t : Timer) (clock : Nat) : Timer := { t with start := clock }

/-- The Order Unit abandons its record in flight, empties its pool and clears the class 2 halt (R146). -/
def State.hotStartOrders (s : State) : State :=
  { s with order.pool := [], order.confirmTimer := none, order.halt := false }

/-- An answer queue without the entries reserved for relayed orders (R161). -/
def AnswerQueue.withoutOrders (q : AnswerQueue) : AnswerQueue := { q with reserved := q.reserved.filter (· == .forSet) }

/-- The Port Unit: reservations of abandoned orders freed, notices emptied, the pause cleared, a running beat timer
restarted at the length it has (R161). -/
def State.hotStartPort (s : State) : State :=
  { s with
    port.answersU := s.port.answersU.withoutOrders
    port.answersD := s.port.answersD.withoutOrders
    port.notices := []
    port.pause := false
    port.beatTimer := s.port.beatTimer.map (·.again s.clock) }

/-- The Supervision Unit: a running period timer starts a full cycle of the period in use; a sweep goes on (R10,
R11). -/
def State.hotStartSupervision (s : State) : State :=
  { s with sup.periodTimer := s.sup.periodTimer.bind fun _ => s.timer s.sup.period }

/-- The Detector Evaluator (R20). -/
def State.hotStartDetectors (s : State) : State :=
  { s with det.detectors := s.det.detectors.map fun d => d.map Detector.hotStart }

/-- A zone's record: TEST ends without a notice, and the window of a zone in ALERT restarts with the window in force
(R58). -/
def ZoneRecord.hotStart (r : ZoneRecord) (window : Option Timer) : ZoneRecord :=
  { r with
    fire := if r.fire = .test then .normal else r.fire
    walk := none
    window := if r.fire = .alert then window else none }

/-- The Zone Unit; route-stale is set (R58). -/
def State.hotStartZones (s : State) : State :=
  { s with
    zone.zones := s.zone.zones.map fun r => r.hotStart (s.timer s.mgmt.wing.knockWindow)
    zone.routeStale := true }

/-- An enabled door's record: commanded setting UNKNOWN, pulse window closed, the held timer of a door in OPEN_AUTH
restarted at 0, and the door owed (R84). -/
def DoorRecord.hotStart (r : DoorRecord) (held : Option Timer) : DoorRecord :=
  { r with
    commanded := none
    window := .closed
    pulseTimer := none
    heldTimer := if r.state = some .openAuth then held else none
    heldReached := false
    owed := true }

/-- One door takes its hot start: its desired setting is worked out without a request, and a door in OPEN_AUTH with
compare A of 0 sends its DOOR-HELD notice again (R69, R84). -/
def State.hotStartDoor (s : State) (d : Nat) : State :=
  let e := s.doorEntry d
  if e.enabled then
    let s1 := (s.putDoor d ((s.doorRecord d).hotStart (s.timer e.heldB))).keepDesired d
    if (s1.doorRecord d).state = some .openAuth ∧ e.heldA = 0 ∧ 0 < e.heldB then s1.reachHeldA d 0 else s1
  else s

/-- The Door Unit, with the permit (R74, R84). Several doors whose compare A is 0 send their DOOR-HELD notices in rising
door number (DESIGN CHOICE, log 41). -/
def State.hotStartDoors (s : State) : State :=
  { doorNumbers.foldl State.hotStartDoor s with door.permit := none }

/-- A zone's guard record: a running delay restarts with the delay in force (R97). -/
def GuardRecord.hotStart (r : GuardRecord) (exit entry : Option Timer) : GuardRecord :=
  { r with
    exitTimer := r.exitTimer.bind fun _ => exit
    entryTimer := r.entryTimer.bind fun _ => entry }

/-- The Guard Unit (R97). -/
def State.hotStartGuard (s : State) : State :=
  { s with
    guard.guards := s.guard.guards.map fun r =>
      r.hotStart (s.timer s.mgmt.wing.exitDelay) (s.timer s.mgmt.wing.entryDelay) }

/-- A lamp OFF order requested for a removed call, without a send yet; one that finds no record is skipped and counted
(R117, R173). -/
def State.lampOff (s : State) (c : Call) : State :=
  match takeRequest ⟨c.point, .lamp .off, 1, false⟩ s.order.pool with
  | some (pool, _) => s.putPool pool
  | none => s.count .ordersSkipped

/-- The Call Unit: the queue emptied with a lamp OFF order for each call in queue order, the attention level 0
(R117). -/
def State.hotStartCalls (s : State) : State :=
  let s1 := (queueOrder s.call.calls).foldl State.lampOff s
  { s1 with call.calls := [], call.attention := 0 }

/-- The Sign Unit: commanded displays UNKNOWN, owed marks and repeat mark clear, a running pass abandoned (R130). -/
def State.hotStartSigns (s : State) : State :=
  { s with
    sign.signs := s.sign.signs.map fun r => { r with commanded := none, owed := false }
    sign.pass := none
    sign.repeatMark := false }

/-- A delay that a hot start restarted with a length of 0 expires at once, judged as R87 or R91 lays down (R97). A passing
exit delay sends ZONE-ARMED although R97 has a hot start send none: the notice is the expiry's (DEDUCED, log 35). -/
def State.expireZeroDelays (s : State) (z : Nat) : State :=
  let r := s.guardRecord z
  if (r.exitTimer.map (·.len)) = some 0 then s.exitDelayExpiry z
  else if (r.entryTimer.map (·.len)) = some 0 then s.entryDelayExpiry z
  else s

/-- A hot start of the whole part in the order of R173: the Order Unit empties its pool before the Call Unit's lamp
orders, the zones come before the doors, and one service and one look for a send come when every unit has taken its
own. Delays of length 0 expire when it is complete (DEDUCED, log 13), those of several zones in rising zone number
(DESIGN CHOICE, log 41). -/
def State.hotStart (s : State) : State :=
  let s1 := s.hotStartOrders.hotStartPort.hotStartSupervision.hotStartDetectors
  let s2 := s1.hotStartSigns.hotStartZones.hotStartDoors.hotStartGuard.hotStartCalls
  zoneNumbers.foldl State.expireZeroDelays s2.serve

end Sys2Proof.Machine
end

