-- ==== Sys2Proof/Machine/Tables.lean ====
section
/-! DEFINITION. Storing table entries (R166): the checks of each table's rule in the order of R166, and the effects of a
stored entry. -/

namespace Sys2Proof.Machine

/-! ### Effects of stored entries -/

/-- A wing record is stored (R168); the first load after a cold start starts the period timer, and the supervision
period and missing limit of every load are buffered (R10). -/
def State.storeWing (s : State) (w : WingRecord) : State :=
  let s1 := { s with mgmt.wing := w, sup.buffered := some (w.period, w.missingLimit) }
  if s.mgmt.wing.loaded then s1
  else { s1 with sup.period := w.period, sup.periodTimer := s.timer w.period }

/-- A class entry is stored and changes nothing else (R18). -/
def State.storeClass (s : State) (c : Nat) (e : ClassEntry) : State := s.putClassEntry c e

/-- A zone entry disables its zone (R42, R85). -/
def State.disableZone (s : State) (z : Nat) : State :=
  let r := s.zoneRecord z
  let s1 := if r.fire = .alert then s.returnDetectors z else s
  let s2 := s1.putZone z { s1.zoneRecord z with window := none, walk := none }
  let s3 := s2.setFire z .disabled
  let s4 := if r.fire = .alert then s3.setStale else s3
  let s5 := if r.fire = .test then s4.notify (.testEnd z .disabled) else s4
  s5.disarmZone z .disabled

/-- A zone entry is stored (R42, R80, R85). -/
def State.storeZone (s : State) (z : Nat) (e : ZoneEntry) : State :=
  let s1 := s.putZoneEntry z e
  let s2 := if s1.counted z = s.counted z then s1 else s1.putOccupancy z ⟨0, 0, 0⟩
  if e.enabled then
    if s2.fireState z = .disabled then s2.setFire z .normal else s2
  else if s2.fireState z = .disabled then s2
  else s2.disableZone z

/-- The detector kind of a device kind. -/
def DeviceKind.detector : Option DeviceKind → Option DetectorKind
  | some .smoke => some .smoke
  | some .heat => some .heat
  | _ => none

/-- The marks of a stored device entry in the presence sets (R2, step 3). -/
def State.loadMarks (s : State) (d : Nat) (enabled : Bool) : State :=
  let inUse := s.sup.selector
  if enabled then
    let s1 := s.putMark inUse d true
    match s.sup.sweep with
    | some k => if k ≤ d then s1.putMark inUse.other d true else s1
    | none => s1
  else (s.putMark inUse d false).putMark inUse.other d false

/-- A device entry is stored and resets the device's dynamic record (R2, R19, R47, R89). -/
def State.storeDevice (s : State) (d : Nat) (e : DeviceEntry) : State :=
  let was := s.causes d
  let s1 := (s.putDeviceEntry d e).putDevice d .cold
  let s2 := (s1.loadMarks d e.enabled).putActivated d false |>.putMotion d false
  let s3 := s2.putDetector d
    ((DeviceKind.detector e.kind).map fun _ => Detector.loaded (s.classEntry e.cls) e.enabled)
  let s4 := if was = .empty then s3 else s3.tellTrouble d
  if was.missing then s4.tellRestored d else s4

/-- A door entry is stored and resets the door's dynamic record (R60). The owed mark is no field that R60 resets. -/
def State.storeDoor (s : State) (d : Nat) (e : DoorEntry) : State :=
  let s1 := (s.putDoorEntry d e).putDoor d { DoorRecord.cold with owed := (s.doorRecord d).owed }
  if e.enabled then
    let s2 := s1.keepDesired d
    let s3 := s2.putDoor d { s2.doorRecord d with state := some (settledState (s2.doorRecord d)) }
    let s4 := s3.staleIfPassabilityChanged s d
    if s4.running then s4.requestDoor d else s4
  else s1.staleIfPassabilityChanged s d

/-- A sign entry is stored and resets the sign's dynamic record (R120). -/
def State.storeSign (s : State) (n : Nat) (e : SignEntry) : State :=
  let owed := e.enabled && (s.signRecord n).owed
  ((s.putSignEntry n e).putSign n ⟨e.defaultDisplay, none, none, false, owed⟩).setStale

/-! ### Checks against the other tables -/

/-- Any zone is in fire ALARM. -/
def State.anyAlarm (s : State) : Bool := zoneNumbers.any fun z => s.fireState z == .alarm

/-- The FIRE_HOLD check: in RUNNING, while any zone is in fire ALARM (R166). -/
def State.fireHeld (s : State) : Bool := s.running && s.anyAlarm

/-- The kind conditions of a device entry: its class does not serve the other detector kind, and the kind of a named
module or sign device does not change (R1). -/
def State.deviceFits (s : State) (d : Nat) (e : DeviceEntry) : Bool :=
  (match DeviceKind.detector e.kind, (s.classEntry e.cls).kind with
    | some k, some k' => k == k'
    | _, _ => true)
    && ((s.deviceEntry d).kind == e.kind || ((s.doorOfModule d).isNone && (s.signOfDevice d).isNone))

/-- A class entry's kind agrees with every enabled SMOKE or HEAT device entry that names it (R17). -/
def State.classFits (s : State) (c : Nat) (e : ClassEntry) : Bool :=
  deviceNumbers.all fun d =>
    let x := s.deviceEntry d
    !(x.enabled && x.cls == c && (DeviceKind.detector x.kind).isSome) || DeviceKind.detector x.kind == e.kind

/-- A door entry's module is enabled with kind DOOR, and no other enabled door names it (R59). -/
def State.doorFits (s : State) (d : Nat) (e : DoorEntry) : Bool :=
  s.enabledAs e.module .door
    && !(e.enabled
      && doorNumbers.any fun n => n != d && (s.doorEntry n).enabled && (s.doorEntry n).module == e.module)

/-- A sign entry's device is enabled with kind SIGN, no other enabled sign names it, and no required door is a
STRONGROOM door (R119). -/
def State.signFits (s : State) (n : Nat) (e : SignEntry) : Bool :=
  s.enabledAs e.device .sign
    && !(e.enabled
      && signNumbers.any fun m => m != n && (s.signEntry m).enabled && (s.signEntry m).device == e.device)
    && (e.slots.filterMap id).all fun o => o.doors.all fun d => (s.doorEntry d).kind != .strongroom

/-- A door is busy for a load: an order to its present module is in flight, it is in OPEN_AUTH, PROPPED or FORCED, or
the entry is STRONGROOM and an order other than LOCK stands for the module it names (R59). -/
def State.doorBusy (s : State) (d : Nat) (e : DoorEntry) : Bool :=
  let st := (s.doorRecord d).state
  s.order.pool.any (fun r => r.inFlight && r.target == (s.doorEntry d).module)
    || st == some .openAuth || st == some .propped || st == some .forced
    || (e.kind == .strongroom && s.order.pool.any fun r => r.target == e.module && r.code != .lock)

/-! ### One entry, then a whole load (R166) -/

/-- One entry offered to a table: the state that has stored it, or the result of the first check it fails, in the order
BAD_INDEX, BAD_VALUE, FIRE_HOLD, BUSY_ENTRY (R166). -/
def State.loadEntry (s : State) (t : Table) (i : Nat) (bytes : List Byte) : Except Result State :=
  if !t.has i then .error .badIndex
  else
    match t with
    | .wing =>
      match readWing bytes with
      | none => .error .badValue
      | some w => if s.fireHeld then .error .fireHold else .ok (s.storeWing w)
    | .zone =>
      match readZone bytes with
      | none => .error .badValue
      | some e => if s.fireHeld then .error .fireHold else .ok (s.storeZone i e)
    | .device =>
      match readDevice bytes with
      | none => .error .badValue
      | some e =>
        if !s.deviceFits i e then .error .badValue
        else if s.running && s.detectorState i == some .alarm then .error .busyEntry
        else .ok (s.storeDevice i e)
    | .cls =>
      match readClass bytes with
      | none => .error .badValue
      | some e => if !s.classFits i e then .error .badValue else .ok (s.storeClass i e)
    | .door =>
      match readDoor bytes with
      | none => .error .badValue
      | some e =>
        if !s.doorFits i e then .error .badValue
        else if s.fireHeld then .error .fireHold
        else if s.running && s.doorBusy i e then .error .busyEntry
        else .ok (s.storeDoor i e)
    | .sign =>
      match readSign bytes with
      | none => .error .badValue
      | some e =>
        if !s.signFits i e then .error .badValue
        else if s.fireHeld then .error .fireHold
        else .ok (s.storeSign i e)

/-- Entries taken in order from an index until the first refusal: the state, the result and the count stored (R166). -/
def State.loadEntries (s : State) (t : Table) (i count : Nat) : List (List Byte) → State × Result × Nat
  | [] => (s, .done, count)
  | e :: rest =>
    match s.loadEntry t i e with
    | .error r => (s, r, count)
    | .ok s' => s'.loadEntries t (i + 1) (count + 1) rest

/-- The first so many runs of a length in a list. -/
def chunks (size : Nat) : Nat → List Byte → List (List Byte)
  | 0, _ => []
  | k + 1, l => l.take size :: chunks size k (l.drop size)

/-- The whole entries of a LOAD-TABLE payload, or `none` when it does not end at the end of a whole entry or carries
none (R166). -/
def wholeEntries (t : Table) (bytes : List Byte) : Option (List (List Byte)) :=
  if bytes.length % t.size = 0 ∧ bytes ≠ [] then some (chunks t.size (bytes.length / t.size) bytes) else none

end Sys2Proof.Machine
end

