-- ==== Sys2Proof/Machine/Requests.lean ====
section
/-! DEFINITION. The Management Unit (chapter 10): each request of chapter 11 with the checks of the unit that owns it,
the judging of a SET (R164), its answer entry (R152) and the cancelling of the permit (R74); then one meaning for each
request command. -/

namespace Sys2Proof.Machine

/-- The result of a request with the bytes that follow it in the ANSWER (R177). -/
structure Reply where
  result : Result
  extra : List Byte
deriving DecidableEq, Repr

/-- A request executed. -/
def done (s : State) : State × Reply := (s, ⟨.done, []⟩)

/-- A request refused, with nothing after the result. -/
def refuse (s : State) (r : Result) : State × Reply := (s, ⟨r, []⟩)

/-- A byte names a zone. -/
def isZone (z : Nat) : Bool := decide (1 ≤ z) && decide (z ≤ 24)

/-! ### Numbering, tables, records and counters -/

/-- ASSIGN in UNNUMBERED (R163). -/
def State.assignRequest (s : State) (source : BitVec 5) (args : List Byte) : State × Reply :=
  match args with
  | [] => refuse s .badRequest
  | n :: _ =>
    if source ≠ 0#5 then refuse s .denied
    else if n.toNat = 0 ∨ 30 < n.toNat then refuse s .badValue
    else done { s with mgmt.part := .unconfigured, mgmt.station := some (BitVec.ofNat 5 n.toNat) }

/-- LOAD-TABLE of a table and entries of the right form (R166). -/
def State.loadRequest (s : State) (t : Table) (start : Nat) (entries : List (List Byte)) : State × Reply :=
  let x := s.loadEntries t start 0 entries
  (x.1, ⟨x.2.1, byte1 x.2.2⟩)

/-- The bytes of one entry in a READ-TABLE answer (R177). -/
def Table.readSize : Table → Nat
  | .wing => 34
  | .zone => 3
  | .device => 3
  | .cls => 22
  | .door => 9
  | .sign => 31

/-- READ-TABLE (R169). -/
def State.readTableRequest (s : State) (table start count : Nat) : State × Reply :=
  match Table.ofCode table with
  | none => refuse s .badRequest
  | some t =>
    if count = 0 ∨ 16 < count then refuse s .badValue
    else if !t.has start ∨ t.last < start + count - 1 then refuse s .badIndex
    else
      let n := min count (45 / t.readSize)
      (s, ⟨.done, byte1 n ++ (List.range n).flatMap fun i => s.entryBytes t (start + i)⟩)

/-- READ-STATE (R170). -/
def State.readStateRequest (s : State) (object index : Nat) : State × Reply :=
  match s.readObject object index with
  | .ok record => (s, ⟨.done, record⟩)
  | .error r => refuse s r

/-- READ-COUNTERS: the 17 counters as they stand, and then all 0 (R160). -/
def State.readCountersRequest (s : State) : State × Reply :=
  ({ s with port.counters := Vector.replicate 17 0 }, ⟨.done, s.port.counters.toList.flatMap byte2⟩)

/-! ### Wing mode and restart -/

/-- The wing mode changes in RUNNING (R172). -/
def State.changeMode (s : State) (m : WingMode) : State := ({ s with mgmt.mode := m }.workOutAll).setStale

/-- The wing mode of a code (chapter 11). -/
def WingMode.ofCode (n : Nat) : Option WingMode :=
  match n with
  | 0 => some .day
  | 1 => some .night
  | _ => none

/-- SET-MODE (R171, R172). -/
def State.setModeRequest (s : State) (mode : Nat) : State × Reply :=
  match WingMode.ofCode mode with
  | none => refuse s .badValue
  | some m =>
    if s.running then
      if m = s.mgmt.mode then done s else done (s.changeMode m)
    else if !s.mgmt.wing.loaded then refuse s .notConfigured
    else done (s.enterRunning m)

/-- RESTART (R173). -/
def State.restartRequest (s : State) : State × Reply := done s.hotStart

/-! ### Guarding (R86, R93) -/

/-- ARM of a DISARMED zone, once the checks pass: ARMED at once with no exit delay, and EXITING otherwise (R86). -/
def State.startArming (s : State) (z : Nat) : State :=
  if s.mgmt.wing.exitDelay = 0 then s.armZone z
  else s.putGuard z { s.guardRecord z with state := .exiting, exitTimer := s.timer s.mgmt.wing.exitDelay }

/-- ARM (R86); a refusal DOOR_OPEN carries the first open door (R177). -/
def State.armRequest (s : State) (z : Nat) : State × Reply :=
  if !isZone z then refuse s .badIndex
  else
    match (s.guardRecord z).state with
    | .exiting => done s
    | .armed => done s
    | .entering => refuse s .stillActive
    | .intrusion => refuse s .stillActive
    | .disarmed =>
      match s.armingCheck z with
      | some (r, door) => (s, ⟨r, door.elim [] byte1⟩)
      | none => done (s.startArming z)

/-- DISARM (R93). -/
def State.disarmRequest (s : State) (z : Nat) : State × Reply :=
  if !isZone z then refuse s .badIndex
  else
    match (s.guardRecord z).state with
    | .disarmed => done s
    | .exiting => done (s.disarmZone z .disarm)
    | .armed => done (s.disarmZone z .disarm)
    | .entering => done (s.disarmZone z .disarm)
    | .intrusion => refuse s .stillActive

/-- ACK-INTRUSION (R93). -/
def State.ackIntrusionRequest (s : State) (z : Nat) : State × Reply :=
  if isZone z ∧ (s.guardRecord z).state = .intrusion then done (s.disarmZone z .ackIntrusion) else refuse s .badIndex

/-! ### Doors (R71, R74, R75, R82) -/

/-- ACK-DOOR (R71). -/
def State.ackDoorRequest (s : State) (d : Nat) : State × Reply :=
  if d ≤ 31 ∧ (s.doorEntry d).enabled ∧ (s.doorRecord d).state = some .forced then
    done ((s.putDoor d { s.doorRecord d with latch := false }).settle d)
  else refuse s .badIndex

/-- PERMIT (R74); any standing permit is none by then. -/
def State.permitRequest (s : State) (d : Nat) : State × Reply :=
  if 31 < d then refuse s .badIndex
  else if !(s.doorEntry d).enabled ∨ (s.doorEntry d).kind ≠ .strongroom then refuse s .badValue
  else done { s with door.permit := some d }

/-- OPEN-DOOR, by the six steps of R75. -/
def State.openDoorRequest (s : State) (d : Nat) : State × Reply :=
  if 31 < d then refuse s .badIndex
  else if s.door.permit ≠ some d then refuse s .noPermit
  else
    let s1 := { s with door.permit := none }
    if (s1.doorRecord d).state ≠ some .secured then refuse s1 .busyEntry
    else
      let x := s1.requestPulse d 1
      if x.2 then done (x.1.putDoor d { x.1.doorRecord d with window := .pending, pulseTimer := none })
      else refuse x.1 .queueFull

/-- RESET-OCCUPANCY (R82). -/
def State.resetOccupancyRequest (s : State) (z : Nat) : State × Reply :=
  if isZone z ∧ s.counted z then done (s.putOccupancy z ⟨0, 0, 0⟩) else refuse s .badIndex

/-! ### Fire (R50 to R54) -/

/-- A zone's fire still stands: one of its detectors in ALARM has ABOVE as its last compare, or one of its call points
its activated flag set (R50). -/
def State.fireStands (s : State) (z : Nat) : Bool :=
  (s.alarmDetectors z).any (fun d => (s.detector d).map (·.lastCompare) == some .above)
    || deviceNumbers.any fun d =>
      (s.deviceEntry d).kind == some .mcp && (s.deviceEntry d).zone == z && s.activatedFlag d

/-- A zone in ALERT or ALARM is reset (R50). -/
def State.resetZone (s : State) (z : Nat) : State :=
  let left := s.fireState z
  let s1 := s.returnDetectors z
  let s2 := s1.putZone z { s1.zoneRecord z with fire := .normal, window := none }
  let s3 := { s2 with zone.fireList := s2.zone.fireList.filter (· != z) }.setStale
  s3.workOutAll.notify (.fireReset z left)

/-- RESET-ZONE (R50). -/
def State.resetZoneRequest (s : State) (z : Nat) : State × Reply :=
  if !isZone z then refuse s .badIndex
  else if s.fireState z = .alarm ∨ s.fireState z = .alert then
    if s.fireStands z then refuse s .stillActive else done (s.resetZone z)
  else done s

/-- START-TEST (R51). -/
def State.startTestRequest (s : State) (z : Nat) : State × Reply :=
  if !isZone z then refuse s .badIndex
  else if s.fireState z ≠ .normal then refuse s .busyEntry
  else
    done ((s.putZone z { s.zoneRecord z with fire := .test, walk := s.timer (60 * s.mgmt.wing.walkLimit) }).notify
      (.testStart z))

/-- END-TEST (R52). -/
def State.endTestRequest (s : State) (z : Nat) : State × Reply :=
  if isZone z ∧ s.fireState z = .test then done (s.endWalkTest z .endTest) else refuse s .badIndex

/-- EVACUATE (R53). -/
def State.evacuateRequest (s : State) : State × Reply := done (s.setEvacuation 0)

/-- STAND-DOWN (R54). -/
def State.standDownRequest (s : State) : State × Reply :=
  if s.zone.fireList ≠ [] then refuse s .fireHold
  else if s.zone.evacuation then done ({ s with zone.evacuation := false }.setStale.notify .evacOff)
  else done s

/-! ### Calls (R105, R109, R110) -/

/-- TAKE-CALL (R109). -/
def State.takeCallRequest (s : State) (n : Nat) : State × Reply :=
  match s.liveCall n with
  | none => refuse s .badIndex
  | some c =>
    if c.state = .taken then done s
    else
      let s1 := s.changeCall n fun x => { x with state := .taken, timer := none }
      done (s1.requestLamp c.point .answered).offeringCheck

/-- CLEAR-CALL (R110). -/
def State.clearCallRequest (s : State) (n : Nat) : State × Reply :=
  match s.liveCall n with
  | none => refuse s .badIndex
  | some c => done ((s.removeCall n).requestLamp c.point .off).offeringCheck

/-- An OFFERED call at or below the attention level is withdrawn (R105). -/
def State.withdrawBelow (s : State) : State :=
  match s.offeredCall with
  | some c => if c.priority ≤ s.call.attention then s.withdraw c.number .attention else s
  | none => s

/-- SET-ATTENTION (R105). -/
def State.setAttentionRequest (s : State) (level : Nat) : State × Reply :=
  if 7 < level then refuse s .badValue
  else done ({ s with call.attention := level }.withdrawBelow).offeringCheck

/-! ### Orders (R143) -/

/-- CLEAR-HALT (R143). -/
def State.clearHaltRequest (s : State) : State × Reply :=
  if s.order.halt then done ({ s with order.halt := false }.lookForSend) else done s

/-! ### Judging a SET (R164, R165) -/

/-- The form of a request is wrong for a numbered part: no layout allows it, or it is an ASSIGN (R164, check 1). A
LOAD-TABLE whose table or entry bytes are wrong is judged here too (R166, R177; DEDUCED, log 14). -/
def Request.badForm : Request → Bool
  | .assign _ => true
  | .bad _ => true
  | .loadTable t _ entries =>
    match Table.ofCode t.toNat with
    | some t => (wholeEntries t entries).isNone
    | none => true
  | _ => false

/-- A request that any station may make (R164, check 2). -/
def Request.fromAny : Request → Bool
  | .readTable .. => true
  | .readState .. => true
  | _ => false

/-- A request taken in UNCONFIGURED (R164, check 3). -/
def Request.beforeRunning : Request → Bool
  | .loadTable .. => true
  | .readTable .. => true
  | .readState .. => true
  | .setMode _ => true
  | _ => false

/-- The result of the first check of R164 that fails, for a numbered part. -/
def State.refusal (s : State) (source : BitVec 5) (q : Request) : Option Result :=
  if q.badForm then some .badRequest
  else if source ≠ 0#5 ∧ !q.fromAny then some .denied
  else if !s.running ∧ !q.beforeRunning then some .notConfigured
  else none

/-- What follows the result of a request that R164 refuses: LOAD-TABLE carries a count of 0, one too short for its table
and starting index too (R177). -/
def Request.refusalExtra : Request → List Byte
  | .loadTable .. => [0#8]
  | .bad payload => if payload.head? = some 0x02#8 then [0#8] else []
  | _ => []

/-- A request is executed by the unit that owns it (R164, check 4). -/
def State.run (s : State) (source : BitVec 5) : Request → State × Reply
  | .assign args => s.assignRequest source args
  | .loadTable t i entries =>
    match Table.ofCode t.toNat with
    | none => (s, ⟨.badRequest, [0#8]⟩)
    | some t =>
      match wholeEntries t entries with
      | none => (s, ⟨.badRequest, [0#8]⟩)
      | some es => s.loadRequest t i.toNat es
  | .readTable t i n => s.readTableRequest t.toNat i.toNat n.toNat
  | .readState k i => s.readStateRequest k.toNat i.toNat
  | .readCounters => s.readCountersRequest
  | .setMode m => s.setModeRequest m.toNat
  | .restart => s.restartRequest
  | .arm z => s.armRequest z.toNat
  | .disarm z => s.disarmRequest z.toNat
  | .ackIntrusion z => s.ackIntrusionRequest z.toNat
  | .ackDoor d => s.ackDoorRequest d.toNat
  | .permit d => s.permitRequest d.toNat
  | .openDoor d => s.openDoorRequest d.toNat
  | .resetOccupancy z => s.resetOccupancyRequest z.toNat
  | .resetZone z => s.resetZoneRequest z.toNat
  | .startTest z => s.startTestRequest z.toNat
  | .endTest z => s.endTestRequest z.toNat
  | .evacuate => s.evacuateRequest
  | .standDown => s.standDownRequest
  | .takeCall n => s.takeCallRequest n.toNat
  | .clearCall n => s.clearCallRequest n.toNat
  | .setAttention l => s.setAttentionRequest l.toNat
  | .clearHalt => s.clearHaltRequest
  | .bad _ => refuse s .badRequest

/-- A request that has been taken is judged and executed whole (R163 in UNNUMBERED, R164 otherwise). -/
def State.judge (s : State) (source : BitVec 5) (q : Request) : State × Reply :=
  match if s.mgmt.part = .unnumbered then none else s.refusal source q with
  | some r => (s, ⟨r, q.refusalExtra⟩)
  | none => s.run source q

/-- The SET is an OPEN-DOOR from station 0 that names the permitted door (R74). -/
def State.usesPermit (s : State) (source : BitVec 5) (q : Request) : Bool :=
  match q with
  | .openDoor d => source == 0#5 && s.door.permit == some d.toNat
  | _ => false

/-- A SET that is taken cancels a standing permit before it is judged (R74). -/
def State.cancelPermit (s : State) (source : BitVec 5) (q : Request) : State :=
  if s.usesPermit source q then s else { s with door.permit := none }

/-- The first byte of the ANSWER to a request: its code; an empty payload has none, and the byte is a free value (R177,
log 7). -/
def Request.answerCode (q : Request) : Byte := q.payload.headD Config.emptySetCode

/-- The ANSWER to a SET fills the entry reserved for it (R152, R177). -/
def State.answerSet (s : State) (h : Header) (q : Request) (r : Reply) : State :=
  s.fill h.port .forSet
    (answerFrame s.stationNumber h.srcStation h.srcDevice h.tag ([q.answerCode] ++ byte1 r.result.code ++ r.extra))

/-- A SET that the Management Unit takes: reserved an answer entry, judged, executed and answered, or dropped for want
of an entry (R152, R164). -/
def State.handleSet (s : State) (h : Header) (q : Request) : State :=
  if !s.answerRoom h.port then s.count (requestsDroppedCounter h.port)
  else
    let x := ((s.reserve h.port .forSet).cancelPermit h.srcStation q).judge h.srcStation q
    x.1.answerSet h q x.2

/-- A SET frame that the Port Unit takes: a broadcast to a numbered part is discarded without being judged (R165). -/
def State.takeSet (s : State) (h : Header) (q : Request) : State :=
  if s.mgmt.part ≠ .unnumbered ∧ h.destStation = 31#5 then s else s.handleSet h q

/-- A SET frame with a request arrives on a backbone port (R148, R149, R150). -/
def State.arriveSet (s : State) (h : Header) (q : Request) : State :=
  s.arrive h.port (headerFrame h .set q.payload) fun t => t.takeSet h q

/-! ### One meaning for each request command -/

/-- ASSIGN (R163). -/
def execAssign (h : Header) (args : List Byte) (s : State) : Host.Outcome State Fault Refusal :=
  proceed (s.arriveSet h (.assign args))

/-- LOAD-TABLE (R166). -/
def execLoadTable (h : Header) (table start : Byte) (entries : List Byte) (s : State) :
    Host.Outcome State Fault Refusal :=
  proceed (s.arriveSet h (.loadTable table start entries))

/-- READ-TABLE (R169). -/
def execReadTable (h : Header) (table start count : Byte) (s : State) : Host.Outcome State Fault Refusal :=
  proceed (s.arriveSet h (.readTable table start count))

/-- READ-STATE (R170). -/
def execReadState (h : Header) (object index : Byte) (s : State) : Host.Outcome State Fault Refusal :=
  proceed (s.arriveSet h (.readState object index))

/-- READ-COUNTERS (R160). -/
def execReadCounters (h : Header) (s : State) : Host.Outcome State Fault Refusal :=
  proceed (s.arriveSet h .readCounters)

/-- SET-MODE (R171, R172). -/
def execSetMode (h : Header) (mode : Byte) (s : State) : Host.Outcome State Fault Refusal :=
  proceed (s.arriveSet h (.setMode mode))

/-- RESTART (R173). -/
def execRestart (h : Header) (s : State) : Host.Outcome State Fault Refusal := proceed (s.arriveSet h .restart)

/-- ARM (R86). -/
def execArm (h : Header) (zone : Byte) (s : State) : Host.Outcome State Fault Refusal :=
  proceed (s.arriveSet h (.arm zone))

/-- DISARM (R93). -/
def execDisarm (h : Header) (zone : Byte) (s : State) : Host.Outcome State Fault Refusal :=
  proceed (s.arriveSet h (.disarm zone))

/-- ACK-INTRUSION (R93). -/
def execAckIntrusion (h : Header) (zone : Byte) (s : State) : Host.Outcome State Fault Refusal :=
  proceed (s.arriveSet h (.ackIntrusion zone))

/-- ACK-DOOR (R71). -/
def execAckDoor (h : Header) (door : Byte) (s : State) : Host.Outcome State Fault Refusal :=
  proceed (s.arriveSet h (.ackDoor door))

/-- PERMIT (R74). -/
def execPermit (h : Header) (door : Byte) (s : State) : Host.Outcome State Fault Refusal :=
  proceed (s.arriveSet h (.permit door))

/-- OPEN-DOOR (R75). -/
def execOpenDoor (h : Header) (door : Byte) (s : State) : Host.Outcome State Fault Refusal :=
  proceed (s.arriveSet h (.openDoor door))

/-- RESET-OCCUPANCY (R82). -/
def execResetOccupancy (h : Header) (zone : Byte) (s : State) : Host.Outcome State Fault Refusal :=
  proceed (s.arriveSet h (.resetOccupancy zone))

/-- RESET-ZONE (R50). -/
def execResetZone (h : Header) (zone : Byte) (s : State) : Host.Outcome State Fault Refusal :=
  proceed (s.arriveSet h (.resetZone zone))

/-- START-TEST (R51). -/
def execStartTest (h : Header) (zone : Byte) (s : State) : Host.Outcome State Fault Refusal :=
  proceed (s.arriveSet h (.startTest zone))

/-- END-TEST (R52). -/
def execEndTest (h : Header) (zone : Byte) (s : State) : Host.Outcome State Fault Refusal :=
  proceed (s.arriveSet h (.endTest zone))

/-- EVACUATE (R53). -/
def execEvacuate (h : Header) (s : State) : Host.Outcome State Fault Refusal := proceed (s.arriveSet h .evacuate)

/-- STAND-DOWN (R54). -/
def execStandDown (h : Header) (s : State) : Host.Outcome State Fault Refusal := proceed (s.arriveSet h .standDown)

/-- TAKE-CALL (R109). -/
def execTakeCall (h : Header) (call : Byte) (s : State) : Host.Outcome State Fault Refusal :=
  proceed (s.arriveSet h (.takeCall call))

/-- CLEAR-CALL (R110). -/
def execClearCall (h : Header) (call : Byte) (s : State) : Host.Outcome State Fault Refusal :=
  proceed (s.arriveSet h (.clearCall call))

/-- SET-ATTENTION (R105). -/
def execSetAttention (h : Header) (level : Byte) (s : State) : Host.Outcome State Fault Refusal :=
  proceed (s.arriveSet h (.setAttention level))

/-- CLEAR-HALT (R143). -/
def execClearHalt (h : Header) (s : State) : Host.Outcome State Fault Refusal := proceed (s.arriveSet h .clearHalt)

/-- A SET whose payload no layout allows (R177). A payload that is in fact some request's is read as that request. -/
def execSetBadRequest (h : Header) (payload : List Byte) (s : State) : Host.Outcome State Fault Refusal :=
  proceed (s.arriveSet h (readRequest payload))

end Sys2Proof.Machine
end

