-- ==== Sys2Proof/Machine/Backbone.lean ====
section
/-! DEFINITION. Backbone frames as received (R147 to R150), relayed orders (R144), BEAT, PAUSE and RESUME, and the grant
of an output port (R155): the command meanings of the Port and Order Units. -/

namespace Sys2Proof.Machine

/-! ### Relayed orders (R144) -/

/-- The bit of a device in the permission map (R178). -/
def permitted (map : List Byte) (d : Nat) : Bool := ((map[d / 8]?).getD 0#8).getLsbD (7 - d % 8)

/-- The target is the module of an enabled STRONGROOM door. -/
def State.strongroomModule (s : State) (d : Nat) : Bool :=
  match s.doorOfModule d with
  | some n => (s.doorEntry n).kind == .strongroom
  | none => false

/-- The target's kind is DOOR or SIGN. -/
def State.doorOrSign (s : State) (d : Nat) : Bool :=
  (s.deviceEntry d).kind == some .door || (s.deviceEntry d).kind == some .sign

/-- The record of a relayed order (R144). -/
def relayRecord (h : Header) (notify halt : Bool) (raw : List Byte) : OrderRecord :=
  ⟨h.destDevice.toNat, .raw raw, 2, none, 0, notify, halt, .relayed h.port h.srcStation h.srcDevice h.tag, false⟩

/-- A refused relayed order is answered at once (R144, R145). -/
def State.refuseOrder (s : State) (h : Header) (r : Result) : State :=
  s.answerRelay (.relayed h.port h.srcStation h.srcDevice h.tag) r []

/-- A relayed order is judged by the first line of R144 that holds. -/
def State.judgeOrder (s : State) (h : Header) (payload : List Byte) : State :=
  let d := h.destDevice.toNat
  if !s.running then s.refuseOrder h .notConfigured
  else if d = 0 ∨ d = 127 ∨ !(s.deviceEntry d).enabled then s.refuseOrder h .badIndex
  else
    match readRelay payload with
    | none => s.refuseOrder h .badValue
    | some (notify, halt, raw) =>
      if s.strongroomModule d then s.refuseOrder h .denied
      else if s.zone.evacuation && s.doorOrSign d then s.refuseOrder h .fireHold
      else if h.srcStation ≠ 0#5 ∧ !permitted s.mgmt.wing.permission d then
        (s.count .ordersDenied).refuseOrder h .denied
      else if !roomFor s.order.pool 2 then s.refuseOrder h .queueFull
      else (s.putPool (insertTail (relayRecord h notify halt raw) s.order.pool)).lookForSend

/-- An ORDER frame that the Port Unit takes: one for station 31 is discarded, and one for this station reserves an answer
entry and is judged, or is dropped for want of an entry (R150, R152). -/
def State.takeOrder (s : State) (h : Header) (payload : List Byte) : State :=
  if h.destStation = 31#5 then s
  else if !s.answerRoom h.port then s.count (requestsDroppedCounter h.port)
  else (s.reserve h.port (.forOrder h.srcStation h.srcDevice h.tag)).judgeOrder h payload

/-! ### Frames as received (R147, R150) -/

/-- A frame that the Port Unit takes is handed on by its kind (R150). -/
def State.takeByKind (s : State) (p : BackbonePort) (f : Frame) : State :=
  match f.kind with
  | .set => s.takeSet (f.header p) (readRequest f.payload)
  | .order => s.takeOrder (f.header p) f.payload
  | .beat => s.takeBeat p
  | .pause => s.takePause p true
  | .resume => s.takePause p false
  | .report => s
  | .answer => s
  | .notice => s

/-- What a backbone port has received when a frame ends: dropped and counted by R147, or a frame that arrives. -/
def State.receiveBackbone (s : State) (p : BackbonePort) (r : Received) : State :=
  match readFrame r with
  | .error .tooLong => s.count (tooLongCounter p)
  | .error .bad => s.count (badFrameCounter p)
  | .ok f => s.arrive p f fun t => t.takeByKind p f

/-! ### The commands -/

/-- BACKBONE_FRAME: a frame as it stands on the line of U or D (R147, R148). -/
def execBackboneFrame (p : BackbonePort) (r : Received) (s : State) : Host.Outcome State Fault Refusal :=
  proceed (s.receiveBackbone p r)

/-- RELAYED_ORDER (R144). -/
def execRelayedOrder (h : Header) (payload : List Byte) (s : State) : Host.Outcome State Fault Refusal :=
  proceed (s.arrive h.port (headerFrame h .order payload) fun t => t.takeOrder h payload)

/-- BEAT (R157); its payload is ignored (R175). -/
def execBeat (h : Header) (payload : List Byte) (s : State) : Host.Outcome State Fault Refusal :=
  proceed (s.arrive h.port (headerFrame h .beat payload) fun t => t.takeBeat h.port)

/-- PAUSE (R156). -/
def execPause (h : Header) (payload : List Byte) (s : State) : Host.Outcome State Fault Refusal :=
  proceed (s.arrive h.port (headerFrame h .pause payload) fun t => t.takePause h.port true)

/-- RESUME (R156). -/
def execResume (h : Header) (payload : List Byte) (s : State) : Host.Outcome State Fault Refusal :=
  proceed (s.arrive h.port (headerFrame h .resume payload) fun t => t.takePause h.port false)

/-- PORT_OUTPUT_GRANT: a backbone port has come free (R155). -/
def execPortOutputGrant (p : BackbonePort) (s : State) : Host.Outcome State Fault Refusal := proceed (s.grant p)

end Sys2Proof.Machine
end

