-- ==== Sys2Proof/Machine/Reports.lean ====
section
/-! DEFINITION. Taking frames on the field port (R4), the steps of a taken report (R5), watch forwarding (R159), and
the command FIELD_FRAME. -/

namespace Sys2Proof.Machine

/-- A report's content goes to the unit that serves its kind, and a HELP report to the Guard Unit as well (R3, R5 step
3). `was` is the device's cause set before the report. -/
def State.serveReport (s : State) (d : Nat) (q : Report) (was : Causes) : State :=
  match q with
  | .detector kind reading fault _ => s.detectorReport d reading kind fault was
  | .mcp activated _ => s.mcpReport d activated
  | .motion motion tamper => s.motionReport d motion tamper
  | .door q =>
    match s.doorOfModule d with
    | none => s
    | some n =>
      let x := s.applyDoorReport n q
      x.1.guardDoorEvents n d x.2
  | .help none _ => s
  | .help (some kind) _ => (s.press d kind).pressSource d
  | .sign echo lampFail => s.signReport d echo lampFail

/-- A detector report in RUNNING tells its cause changes when it has been evaluated, and every other report at once
(R8, R21). -/
def State.evaluates (s : State) (q : Report) : Bool :=
  match q with
  | .detector .. => s.running
  | _ => false

/-- Step 2 of R5: the tamper flag is applied to the cause set (R7, R8). This holds of a DOOR module that no enabled door
names as well: R5 and R7 speak of any taken report, and R176 does not read such a module's report beyond its checks (DESIGN
CHOICE, log 47). -/
def State.applyTamper (s : State) (d : Nat) (q : Report) : State :=
  match q.tamper with
  | none => s
  | some t =>
    let c := { s.causes d with tamper := t }
    if s.evaluates q then s.putCauses d c else s.changeCauses d c

/-- A taken report is copied upward (R159). -/
def State.watched (s : State) (d : Nat) : Bool :=
  let w := s.mgmt.wing
  w.watchMode == .all || (w.watchMode == .trouble && s.abnormal d) || w.watchMask.getLsbD (d / 16)

/-- Step 5 of R5: the report is offered to watch forwarding (R159). -/
def State.watch (s : State) (d : Nat) (tag : Byte) (payload : List Byte) : State :=
  if s.watched d then s.notify (.watchCopy d tag payload) else s

/-- A taken report is handed on by the five steps of R5. -/
def State.takeReport (s : State) (d : Nat) (tag : Byte) (payload : List Byte) (q : Report) : State :=
  let was := s.causes d
  let s1 := (s.markInUse d).applyTamper d q
  let s2 := if s1.running then (s1.serveReport d q was).candidate d tag payload else s1
  s2.watch d tag payload

/-- A frame that has passed R147 on the field port is checked as a field frame (R4). -/
def State.takeField (s : State) (f : Frame) : State :=
  let d := f.srcDevice.toNat
  if f.kind ≠ .report then s.count .badFrameF
  else if d = 0 ∨ d = 127 ∨ !(s.deviceEntry d).enabled then s.count .unknownDevice
  else
    match (s.deviceEntry d).kind.bind fun k => readReport k f.payload with
    | none => s.count .badFrameF
    | some q => s.takeReport d f.tag f.payload q

/-- A frame that arrives on the field port (R4, R147). -/
def State.receiveField (s : State) (r : Received) : State :=
  match readFrame r with
  | .error .tooLong => s.count .tooLongF
  | .error .bad => s.count .badFrameF
  | .ok f => s.takeField f

/-- FIELD_FRAME (R4). -/
def execFieldFrame (r : Received) (s : State) : Host.Outcome State Fault Refusal := proceed (s.receiveField r)

end Sys2Proof.Machine
end

