-- ==== Sys2Proof/Machine/Timers.lean ====
section
/-! DEFINITION. The commands that time and the engines bring: expiries, the period boundary, the visits of the sweep
and of the sign pass, and the cold start. -/

namespace Sys2Proof.Machine

/-- PERIOD_BOUNDARY (R10, R11). -/
def execPeriodBoundary (s : State) : Host.Outcome State Fault Refusal := proceed s.boundary

/-- SWEEP_VISIT (R11). -/
def execSweepVisit (s : State) : Host.Outcome State Fault Refusal := proceed s.visit

/-- DOUBLE_KNOCK_WINDOW_EXPIRY (R46). -/
def execDoubleKnockWindowExpiry (zone : Nat) (s : State) : Host.Outcome State Fault Refusal :=
  proceed (s.knockWindowExpiry zone)

/-- WALK_TEST_TIMER_EXPIRY (R52). -/
def execWalkTestTimerExpiry (zone : Nat) (s : State) : Host.Outcome State Fault Refusal :=
  proceed (s.walkTestExpiry zone)

/-- PULSE_TIMER_EXPIRY (R68). -/
def execPulseTimerExpiry (door : Nat) (s : State) : Host.Outcome State Fault Refusal := proceed (s.pulseExpiry door)

/-- HELD_COMPARE_A (R69). -/
def execHeldCompareA (door : Nat) (s : State) : Host.Outcome State Fault Refusal := proceed (s.heldCompareA door)

/-- HELD_COMPARE_B (R69). -/
def execHeldCompareB (door : Nat) (s : State) : Host.Outcome State Fault Refusal := proceed (s.heldCompareB door)

/-- EXIT_DELAY_EXPIRY (R87). -/
def execExitDelayExpiry (zone : Nat) (s : State) : Host.Outcome State Fault Refusal :=
  proceed (s.exitDelayExpiry zone)

/-- ENTRY_DELAY_EXPIRY (R91). -/
def execEntryDelayExpiry (zone : Nat) (s : State) : Host.Outcome State Fault Refusal :=
  proceed (s.entryDelayExpiry zone)

/-- ESCALATION_STEP (R111). -/
def execEscalationStep (call : Nat) (s : State) : Host.Outcome State Fault Refusal := proceed (s.escalationStep call)

/-- ESCALATION_CYCLE_END (R112). -/
def execEscalationCycleEnd (call : Nat) (s : State) : Host.Outcome State Fault Refusal :=
  proceed (s.escalationCycleEnd call)

/-- CONFIRMATION_TIMER_EXPIRY (R141). -/
def execConfirmationTimerExpiry (s : State) : Host.Outcome State Fault Refusal := proceed s.confirmationExpiry

/-- BEAT_TIMER_EXPIRY (R157). -/
def execBeatTimerExpiry (s : State) : Host.Outcome State Fault Refusal := proceed s.beatExpiry

/-- The running pass reaches its next sign and moves on (R121). -/
def State.passVisit (s : State) : State :=
  match s.sign.pass with
  | some n => (s.passSign n).passOn n
  | none => s

/-- SIGN_PASS_VISIT (R121). -/
def execSignPassVisit (s : State) : Host.Outcome State Fault Refusal := proceed s.passVisit

/-- A cold start: every unit at its cold-start values, and every frame under way abandoned (R174). The commands that
wait are events still to come and stay (DESIGN CHOICE, log 4). -/
def State.coldStart (s : State) : State := { State.reset with pending := s.pending }

/-- COLD_START (R174). -/
def execColdStart (s : State) : Host.Outcome State Fault Refusal := proceed s.coldStart

end Sys2Proof.Machine
end

