-- ==== Sys2Proof/Machine/Dispatch.lean ====
section
/-! DEFINITION. The dispatch: one arm per command, each a direct call of its meaning. -/

namespace Sys2Proof.Machine

def exec (i : Instr) (s : State) : Host.Outcome State Fault Refusal :=
  match i with
  | .fieldFrame r => Sys2Proof.Machine.execFieldFrame r s
  | .backboneFrame p r => Sys2Proof.Machine.execBackboneFrame p r s
  | .assign h args => Sys2Proof.Machine.execAssign h args s
  | .loadTable h table start entries => Sys2Proof.Machine.execLoadTable h table start entries s
  | .readTable h table start count => Sys2Proof.Machine.execReadTable h table start count s
  | .readState h object index => Sys2Proof.Machine.execReadState h object index s
  | .readCounters h => Sys2Proof.Machine.execReadCounters h s
  | .setMode h mode => Sys2Proof.Machine.execSetMode h mode s
  | .restart h => Sys2Proof.Machine.execRestart h s
  | .arm h zone => Sys2Proof.Machine.execArm h zone s
  | .disarm h zone => Sys2Proof.Machine.execDisarm h zone s
  | .ackIntrusion h zone => Sys2Proof.Machine.execAckIntrusion h zone s
  | .ackDoor h door => Sys2Proof.Machine.execAckDoor h door s
  | .permit h door => Sys2Proof.Machine.execPermit h door s
  | .openDoor h door => Sys2Proof.Machine.execOpenDoor h door s
  | .resetOccupancy h zone => Sys2Proof.Machine.execResetOccupancy h zone s
  | .resetZone h zone => Sys2Proof.Machine.execResetZone h zone s
  | .startTest h zone => Sys2Proof.Machine.execStartTest h zone s
  | .endTest h zone => Sys2Proof.Machine.execEndTest h zone s
  | .evacuate h => Sys2Proof.Machine.execEvacuate h s
  | .standDown h => Sys2Proof.Machine.execStandDown h s
  | .takeCall h call => Sys2Proof.Machine.execTakeCall h call s
  | .clearCall h call => Sys2Proof.Machine.execClearCall h call s
  | .setAttention h level => Sys2Proof.Machine.execSetAttention h level s
  | .clearHalt h => Sys2Proof.Machine.execClearHalt h s
  | .setBadRequest h payload => Sys2Proof.Machine.execSetBadRequest h payload s
  | .relayedOrder h payload => Sys2Proof.Machine.execRelayedOrder h payload s
  | .beat h payload => Sys2Proof.Machine.execBeat h payload s
  | .pause h payload => Sys2Proof.Machine.execPause h payload s
  | .resume h payload => Sys2Proof.Machine.execResume h payload s
  | .portOutputGrant p => Sys2Proof.Machine.execPortOutputGrant p s
  | .periodBoundary => Sys2Proof.Machine.execPeriodBoundary s
  | .sweepVisit => Sys2Proof.Machine.execSweepVisit s
  | .doubleKnockWindowExpiry zone => Sys2Proof.Machine.execDoubleKnockWindowExpiry zone s
  | .walkTestTimerExpiry zone => Sys2Proof.Machine.execWalkTestTimerExpiry zone s
  | .pulseTimerExpiry door => Sys2Proof.Machine.execPulseTimerExpiry door s
  | .heldCompareA door => Sys2Proof.Machine.execHeldCompareA door s
  | .heldCompareB door => Sys2Proof.Machine.execHeldCompareB door s
  | .exitDelayExpiry zone => Sys2Proof.Machine.execExitDelayExpiry zone s
  | .entryDelayExpiry zone => Sys2Proof.Machine.execEntryDelayExpiry zone s
  | .escalationStep call => Sys2Proof.Machine.execEscalationStep call s
  | .escalationCycleEnd call => Sys2Proof.Machine.execEscalationCycleEnd call s
  | .confirmationTimerExpiry => Sys2Proof.Machine.execConfirmationTimerExpiry s
  | .beatTimerExpiry => Sys2Proof.Machine.execBeatTimerExpiry s
  | .signPassVisit => Sys2Proof.Machine.execSignPassVisit s
  | .coldStart => Sys2Proof.Machine.execColdStart s

end Sys2Proof.Machine
end

