-- ==== Sys2Proof/Machine/Step.lean ====
section
/-! DEFINITION. One step of the block, and the command a word places at the front of its queue. -/

namespace Sys2Proof.Machine

/-- One step: the command at the front of the queue is taken and executed. On an empty queue the command that is due is
executed, and with none due the clock ticks (DESIGN CHOICE, log 2). -/
def step (s : State) : Host.Outcome State Fault Refusal :=
  match s.pending with
  | c :: rest => exec c { s with pending := rest }
  | [] =>
    match s.dueNow with
    | some c => exec c s
    | none => .next s.tick

/-- The state with the command that a word spells put at the front of its queue. The opcode table gives no row any bits,
so no word spells a command and the state is unchanged (log 16). -/
def State.withFetchWord (s : State) (nbits w : Nat) : State :=
  match decodeTableWord nbits w with
  | some c => { s with pending := c :: s.pending }
  | none => s

end Sys2Proof.Machine
end

