-- ==== Sys2Proof/Safety.lean ====
section
/-! DEFINITION. What the claims about the machine are stated in: a safe step, a SET that is taken and answered, the
table of intrusion sources, and the laws of the device that the spec states once each (R61, R72, R80, R88, R99, R106,
R124, R134) with the bounds of chapter 9 and what the permit may name (R74). -/

namespace Sys2Proof.Machine

/-- An outcome is a next state. -/
def isNext (o : Host.Outcome State Fault Refusal) : Bool :=
  match o with
  | .next _ => true
  | .fault _ => false
  | .refused _ => false

/-- A step from a state is safe. -/
def State.safe (s : State) : Prop := isNext (step s) = true

/-! ### A SET that is taken (R152, R164) -/

/-- A frame of this header is for this numbered station, and its port has room for an answer (R148, R152). -/
def State.takes (s : State) (h : Header) : Prop :=
  s.mgmt.part ≠ .unnumbered ∧ h.destStation = s.stationNumber ∧ h.destStation ≠ 31#5 ∧ s.answerRoom h.port = true

/-- A request from station 0 in a frame of this header passes the checks of R164 in RUNNING. -/
def State.admits (s : State) (h : Header) : Prop := s.takes h ∧ s.running = true ∧ h.srcStation = 0#5

/-- The state in which a taken SET is judged: an answer entry reserved, and the permit cancelled (R74, R152). -/
def State.taken (s : State) (h : Header) : State := { s.reserve h.port .forSet with door.permit := none }

/-- The ANSWER to a SET fills its entry: the request code, the result and the bytes that follow it (R152, R177). -/
def State.answer (s : State) (h : Header) (code : Byte) (r : Result) (extra : List Byte) : State :=
  s.fill h.port .forSet
    (answerFrame s.stationNumber h.srcStation h.srcDevice h.tag (code :: BitVec.ofNat 8 r.code :: extra))

/-- The state in which a taken SET with a request is judged: as `taken`, but an OPEN-DOOR from station 0 that names the
permitted door keeps the permit (R74). -/
def State.takenBy (s : State) (h : Header) (q : Request) : State :=
  (s.reserve h.port .forSet).cancelPermit h.srcStation q

/-- The command of a request in a frame of this header. -/
def Request.command (h : Header) : Request → Instr
  | .assign args => .assign h args
  | .loadTable t i entries => .loadTable h t i entries
  | .readTable t i n => .readTable h t i n
  | .readState k i => .readState h k i
  | .readCounters => .readCounters h
  | .setMode m => .setMode h m
  | .restart => .restart h
  | .arm z => .arm h z
  | .disarm z => .disarm h z
  | .ackIntrusion z => .ackIntrusion h z
  | .ackDoor d => .ackDoor h d
  | .permit d => .permit h d
  | .openDoor d => .openDoor h d
  | .resetOccupancy z => .resetOccupancy h z
  | .resetZone z => .resetZone h z
  | .startTest z => .startTest h z
  | .endTest z => .endTest h z
  | .evacuate => .evacuate h
  | .standDown => .standDown h
  | .takeCall n => .takeCall h n
  | .clearCall n => .clearCall h n
  | .setAttention l => .setAttention h l
  | .clearHalt => .clearHalt h
  | .bad payload => .setBadRequest h payload

/-- A request as a payload spells it: what stands under `bad` is the payload of no request. -/
def Request.proper (q : Request) : Prop := ∀ payload, q = .bad payload → readRequest payload = .bad payload

/-! ### Frames -/

/-- What a port has received is a frame of the form R147 asks for. -/
def soundFrame (r : Received) : Prop :=
  r.stopBitMissing = false ∧ ∃ f : Frame, f.payload.length ≤ 48 ∧ r.bytes = f.bytes

/-- A frame as a port receives it. -/
def Frame.received (f : Frame) : Received := ⟨f.bytes, false⟩

/-- A frame that this part takes (R148, R149). -/
def State.takesFrame (s : State) (f : Frame) : Prop :=
  if s.mgmt.part = .unnumbered then
    f.kind = .set ∧ f.destStation = 31#5 ∧ f.payload.head? = some 0x01#8
  else f.destStation = s.stationNumber ∨ f.destStation = 31#5

/-- A state in which a frame taken on a port has had its effect: one for station 31 with hops left is repeated toward
the other port (R148). -/
def State.repeated (t : State) (p : BackbonePort) (f : Frame) : State :=
  if f.destStation = 31#5 ∧ f.hop ≠ 0#4 then t.repeatOn (otherPort p) { f with hop := f.hop - 1#4 } else t

/-- A BEAT, PAUSE or RESUME of this header is taken: the part has a number and the header names it or station 31
(R148). -/
def State.hears (s : State) (h : Header) : Prop :=
  s.mgmt.part ≠ .unnumbered ∧ s.stationNumber ≠ 31#5 ∧ (h.destStation = s.stationNumber ∨ h.destStation = 31#5)

/-! ### Loads -/

/-- The state that has stored every one of a list of entries from an index on, or none if one of them is refused
(R166). -/
def State.stores (s : State) (t : Table) (i : Nat) : List (List Byte) → Option State
  | [] => some s
  | e :: rest =>
    match s.loadEntry t i e with
    | .ok s' => s'.stores t (i + 1) rest
    | .error _ => none

/-! ### Sources of intrusion -/

/-- The table of sources of intrusion of chapter 5: what a source event does in a zone by the zone's guard state (R87,
R89 to R92). `entryDoor` says that an opening or exit request is one of an entry door. -/
def State.judgeSource (s : State) (z : Nat) (source : SourceKind) (which : Nat) (entryDoor : Bool) : State :=
  let r := s.guardRecord z
  let delay := s.mgmt.wing.entryDelay
  let intrusion := fun (k : SourceKind) =>
    (s.putGuard z { r with
      state := .intrusion
      exitTimer := none
      entryTimer := none
      source := some (k, which)
      further := 0 }).notify (.intrusion z k which r.state s.mgmt.mode (s.occupancyMark z))
  match r.state with
  | .disarmed => s
  | .exiting => if source = .tamper then intrusion source else s
  | .entering => if source = .motion ∨ source = .help ∨ entryDoor = true then s else intrusion source
  | .intrusion => s.putGuard z { r with further := if r.further < 255 then r.further + 1 else r.further }
  | .armed =>
    if entryDoor = true ∧ (source = .opening ∨ source = .forced) then
      if delay = 0 then intrusion .entryDelay
      else
        (s.putGuard z { r with
          state := .entering
          entering := some which
          entryTimer := some ⟨s.clock, delay * 25000⟩ }).notify (.entryStart z which delay)
    else intrusion source

/-- A source event in each side zone of a door, side A first (log 34); zone 0 has no guard state. -/
def State.judgeSides (s : State) (d : Nat) (source : SourceKind) (which : Nat) (entryDoor : Bool) : State :=
  ([(s.doorEntry d).sideA, (s.doorEntry d).sideB].filter (· != 0)).foldl
    (fun t z => t.judgeSource z source which entryDoor) s

/-! ### Laws -/

/-- The order pool law (R134): at most 32 records, of which classes 1 and 2 hold at most 24 and class 2 at most 12; at
most one record in flight; the chain in class order, with no class above 2. -/
def State.orderLaw (s : State) : Prop :=
  (∀ r ∈ s.order.pool, r.cls ≤ 2) ∧ s.order.pool.length ≤ 32 ∧ classCount s.order.pool 1 + classCount s.order.pool 2 ≤ 24
    ∧ classCount s.order.pool 2 ≤ 12 ∧ (s.order.pool.filter (·.inFlight)).length ≤ 1
    ∧ s.order.pool.Pairwise (fun a b => a.cls ≤ b.cls)

/-- The call queue law (R99): at most 16 calls, at most one for any help point, each with a number of its own from 1 to
254; and priorities, base priorities and the attention level are 0 to 7. -/
def State.callLaw (s : State) : Prop :=
  s.call.calls.length ≤ 16 ∧ s.call.calls.Pairwise (fun a b => a.point ≠ b.point ∧ a.number ≠ b.number)
    ∧ (∀ c ∈ s.call.calls, 1 ≤ c.number ∧ c.number ≤ 254 ∧ c.priority ≤ 7)
    ∧ s.mgmt.wing.assistBase ≤ 7 ∧ s.mgmt.wing.urgentBase ≤ 7 ∧ s.call.attention ≤ 7

/-- The offering law (R106): at most one call is OFFERED, and its priority is greater than the attention level; no call
is OFFERED while the link is STAND-ALONE. -/
def State.offerLaw (s : State) : Prop :=
  s.call.calls.Pairwise (fun a b => ¬(a.state = .offered ∧ b.state = .offered))
    ∧ ∀ c ∈ s.call.calls, c.state = .offered → s.call.attention < c.priority ∧ s.port.link = .online

/-- The law of fire and guarding (R88): no zone is at once in fire ALARM and guarded. -/
def State.guardLaw (s : State) : Prop := ∀ z, s.fireState z = .alarm → (s.guardRecord z).state = .disarmed

/-- The fire zone list holds exactly the zones in fire ALARM, each once (R49); zone 0 has no fire state, and no zone is
in ALARM before RUNNING. -/
def State.fireListLaw (s : State) : Prop :=
  s.zone.fireList.Nodup ∧ (∀ z, z ∈ s.zone.fireList ↔ s.fireState z = .alarm) ∧ s.fireState 0 = .disabled
    ∧ (s.running = true ∨ s.zone.fireList = [])

/-- The occupancy law (R80): every occupancy is 0 to 4095 and every clamp counter 0 to 255; those of a zone that is not
counted are 0. -/
def State.occupancyLaw (s : State) : Prop :=
  ∀ z, (s.occupancy z).count ≤ 4095 ∧ (s.occupancy z).undercount ≤ 255 ∧ (s.occupancy z).overcount ≤ 255
    ∧ (s.counted z = false → s.occupancy z = ⟨0, 0, 0⟩)

/-- A record of the pool has this relayed origin. -/
def OrderRecord.cameBy (r : OrderRecord) (p : BackbonePort) (station : BitVec 5) (device : BitVec 7) (tag : Byte) :
    Bool :=
  r.origin == .relayed p station device tag

/-- The bounds of the Port Unit (R151 to R153, R160), and a reserved answer entry for every relayed order that stands
in the pool (R152). -/
def State.portLaw (s : State) : Prop :=
  s.port.upQueue.length ≤ 8 ∧ s.port.downQueue.length ≤ 8 ∧ s.port.answersU.size ≤ 16 ∧ s.port.answersD.size ≤ 16
    ∧ s.port.notices.length ≤ 64 ∧ (∀ c : Counter, s.counter c ≤ 65535)
    ∧ ∀ p station device tag, (s.order.pool.filter (·.cameBy p station device tag)).length
        ≤ ((s.answers p).reserved.filter (· == .forOrder station device tag)).length

/-- Every enabled door's desired setting and cause are those its kind, its demand and the wing mode give (R61). -/
def State.desiredLaw (s : State) : Prop :=
  ∀ d, (s.doorEntry d).enabled = true → ((s.doorRecord d).desired, (s.doorRecord d).cause) = s.desiredOf d

/-- The ranges of a judgement set (R17). -/
def JudgeSet.law (j : JudgeSet) : Prop := j.s ≤ 3 ∧ 1 ≤ j.p ∧ j.p < j.a ∧ j.a ≤ 1022 ∧ 1 ≤ j.v ∧ j.v ≤ 7

/-- The ranges of a loaded class entry (R17); one never loaded has every field zero. -/
def ClassEntry.law (c : ClassEntry) : Prop :=
  (c.loaded = true → 1 ≤ c.bmin ∧ c.bmin ≤ c.b0 ∧ c.b0 ≤ c.bmax ∧ c.bmax ≤ 1022 ∧ c.day.law ∧ c.night.law)
    ∧ (c.loaded = false → c.b0 = 0 ∧ c.bmin = 0 ∧ c.bmax = 0)

/-- The ranges of a detector record (chapter 2): the baseline unset or within its limits in force, the filtered value
within -16336 to 16336, the verify count at most 7 and, while it verifies, at most 6. -/
def Detector.law (d : Detector) : Prop :=
  ((d.baseline = 0 ∧ d.limitLow = 0 ∧ d.limitHigh = 0)
      ∨ (1 ≤ d.limitLow ∧ d.limitHigh ≤ 1022 ∧ 16 * d.limitLow ≤ d.baseline ∧ d.baseline ≤ 16 * d.limitHigh))
    ∧ -16336 ≤ d.filtered ∧ d.filtered ≤ 16336 ∧ d.verify ≤ 7 ∧ (d.state = .verify → d.verify ≤ 6)
    ∧ ∀ r, d.lastNormal = some r → 1 ≤ r ∧ r ≤ 1022

/-- The detector law (R25): every class entry and every detector record lies in its ranges. -/
def State.detectorLaw (s : State) : Prop :=
  (∀ c, (s.classEntry c).law) ∧ ∀ d det, s.detector d = some det → det.law

/-- A pass runs over signs 0 to 47, in RUNNING, with route-stale set (R121). -/
def State.passLaw (s : State) : Prop :=
  ∀ n, s.sign.pass = some n → n ≤ 47 ∧ s.zone.routeStale = true ∧ s.running = true

/-- A display of a sign leads into no fire: it is no arrow of an option whose blocking zones include a zone in ALERT or
ALARM (R123, R124). -/
def State.leadsOut (s : State) (n : Nat) (x : Option Display) : Prop :=
  ∀ o, some o ∈ (s.signEntry n).slots → x.bind Display.arrow = some o.arrow →
    ∀ z ∈ o.zones, s.fireState z ≠ .alert ∧ s.fireState z ≠ .alarm

/-- A SHOW order for a sign waits or is in flight, or the sign is owed. -/
def State.showStands (s : State) (n : Nat) : Prop :=
  (s.signRecord n).owed = true
    ∨ ∃ r ∈ s.order.pool, r.target = (s.signEntry n).device ∧ ∃ x, r.code = .display x

/-- The device law of R124 for the signs under evaluation, those whose device is not MISSING: while the wing is evacuating
and route-stale is clear, a commanded display leads into no fire, or a SHOW order stands for the sign. -/
def State.routeLaw (s : State) : Prop :=
  s.zone.evacuation = true → s.zone.routeStale = false → ∀ n, (s.signEntry n).enabled = true →
    s.missing (s.signEntry n).device = false → s.showStands n ∨ s.leadsOut n (s.signRecord n).commanded

/-- A sign has been judged as the wing stands: route-stale is clear, or a pass without a repeat mark is past it (R121). -/
def State.judged (s : State) (n : Nat) : Prop :=
  s.zone.routeStale = false ∨ s.sign.repeatMark = false ∧ ∃ p, s.sign.pass = some p ∧ n < p

/-- No two enabled signs have one device, and no sign has one arrow in two options (R119). -/
def State.signTableLaw (s : State) : Prop :=
  (∀ a b, (s.signEntry a).enabled = true → (s.signEntry b).enabled = true →
      (s.signEntry a).device = (s.signEntry b).device → a = b)
    ∧ ∀ n, (((s.signEntry n).slots.filterMap id).map (·.arrow)).Nodup

/-- The sign law: what keeps the device law of R124. A pass runs only with route-stale set; a sign in FAULT has no
commanded display (R126); and while the wing is evacuating, the desired display of every judged sign leads into no fire,
and its commanded display does not either unless a SHOW order stands. -/
def State.signLaw (s : State) : Prop :=
  s.passLaw ∧ s.signTableLaw
    ∧ (∀ n, (s.signRecord n).fault = true → (s.signRecord n).commanded = none)
    ∧ (s.running = true → s.zone.evacuation = true → ∀ n, (s.signEntry n).enabled = true →
        s.missing (s.signEntry n).device = false → s.judged n →
        s.leadsOut n (s.signRecord n).desired
          ∧ (s.showStands n ∨ s.leadsOut n (s.signRecord n).commanded))

/-- The permit law (R74): a permit names an enabled STRONGROOM door. -/
def State.permitLaw (s : State) : Prop :=
  ∀ d, s.door.permit = some d → (s.doorEntry d).enabled = true ∧ (s.doorEntry d).kind = .strongroom

/-- An order to UNLOCK stands for a door's module, waiting or in flight, or the door is owed. -/
def State.unlockStands (s : State) (d : Nat) : Prop :=
  (s.doorRecord d).owed = true
    ∨ ∃ r ∈ s.order.pool, r.target = (s.doorEntry d).module ∧ r.code = .unlock

/-- The law of fire release (R72): while a zone is in fire ALARM, every enabled EGRESS door with a side in it is RELEASED
or in FAULT, or has an UNLOCK order waiting, in flight or owed. -/
def State.egressLaw (s : State) : Prop :=
  ∀ z d, 1 ≤ z → s.fireState z = .alarm → (s.doorEntry d).enabled = true → (s.doorEntry d).kind = .egress →
    ((s.doorEntry d).sideA = z ∨ (s.doorEntry d).sideB = z) →
    (s.doorRecord d).state = some .released ∨ (s.doorRecord d).state = some .fault ∨ s.unlockStands d

/-- No two enabled doors have one module (R59). -/
def State.modulesLaw (s : State) : Prop :=
  ∀ a b, (s.doorEntry a).enabled = true → (s.doorEntry b).enabled = true →
    (s.doorEntry a).module = (s.doorEntry b).module → a = b

/-- A held timer runs only for a door in OPEN_AUTH (R69). -/
def State.heldLaw (s : State) : Prop := ∀ d, (s.doorRecord d).heldTimer ≠ none → (s.doorRecord d).state = some .openAuth

/-- The law of fire release together with what keeps it: modules of their own, desired settings worked out, held timers
only in OPEN_AUTH, and no zone in ALARM before RUNNING. -/
def State.releaseLaw (s : State) : Prop :=
  s.egressLaw ∧ s.desiredLaw ∧ s.modulesLaw ∧ s.heldLaw ∧ (s.running = true ∨ ∀ z, s.fireState z ≠ .alarm)

end Sys2Proof.Machine
end

