-- ==== Sys2Proof/Certificates/Slice0/Obligations.lean ====
section
/-! DEFINITION. The statements for the provers. A statement about a command gives the next state by the spec's rules as
an equation, so that everything it does not write is left as it was; `beginPass` at its end is R121, by which a pass
over the signs begins when route-stale stands. Statements in which a convention of the model takes part say so and name
its log entry. -/

open Sys2Proof Sys2Proof.Machine

/-! ### The queue, the cold start and frames -/

/-- One step takes the command at the front of the queue and executes it with the rest of the queue. -/
def Obligations.StepRunsTheFrontCommand : Prop :=
  ∀ (c : Instr) (rest : List Instr) (s : State),
    step { s with pending := c :: rest } = exec c { s with pending := rest }

/-- COLD_START leaves every unit at its cold-start values, whatever stood before. The values spelled out are the spec's:
R174's zero wing fields, the disabled entries that read as zero in every byte (R178), and R84's table of the doors among
them. Those of the last clause the spec does not give: they are the model's choice (log 17). -/
def Obligations.ColdStartResetsEveryUnit : Prop :=
  (∀ s : State, ∃ t, exec .coldStart s = .next t ∧ { t with pending := [] } = State.reset)
    ∧ State.reset.mgmt.part = .unnumbered ∧ State.reset.mgmt.station = none ∧ State.reset.mgmt.mode = .night
    ∧ State.reset.mgmt.wing = {
        loaded := false
        period := 0
        missingLimit := 0
        beatTimeout := 0
        knockWindow := 0
        walkLimit := 0
        stepA := 0
        cycleB := 0
        assistBase := 0
        urgentBase := 0
        exitDelay := 0
        entryDelay := 0
        watchMode := .quiet
        watchMask := 0#8
        pulseTime := 0
        permission := List.replicate 16 0#8
        asLoaded := List.replicate 33 0#8 }
    ∧ (∀ tb i, ∀ b ∈ State.reset.entryBytes tb i, b = 0#8)
    ∧ (∀ i, (State.reset.zoneEntry i).enabled = false ∧ (State.reset.deviceEntry i).enabled = false
        ∧ (State.reset.classEntry i).loaded = false ∧ (State.reset.doorEntry i).enabled = false
        ∧ (State.reset.signEntry i).enabled = false)
    ∧ (∀ z, State.reset.zoneRecord z = ⟨.disabled, none, none, none⟩ ∧ State.reset.occupancy z = ⟨0, 0, 0⟩
        ∧ State.reset.guardRecord z = ⟨.disarmed, none, none, none, none, 0⟩)
    ∧ (∀ d, let r := State.reset.doorRecord d
        r.state = none ∧ r.commanded = none ∧ r.latch = false ∧ r.window = .closed ∧ r.pulseTimer = none
          ∧ r.heldTimer = none ∧ r.heldReached = false ∧ r.owed = false
          ∧ State.reset.signRecord d = ⟨none, none, none, false, false⟩)
    ∧ (∀ d, State.reset.device d = ⟨[true, true, true, true, true, true], .empty⟩ ∧ State.reset.detector d = none
        ∧ State.reset.activatedFlag d = false ∧ State.reset.motionFlag d = false
        ∧ State.reset.mark .a d = false ∧ State.reset.mark .b d = false)
    ∧ State.reset.zone.fireList = [] ∧ State.reset.zone.evacuation = false ∧ State.reset.zone.routeStale = false
    ∧ State.reset.door.permit = none ∧ State.reset.call = ⟨[], 0, 1⟩
    ∧ State.reset.sign.pass = none ∧ State.reset.sign.repeatMark = false
    ∧ State.reset.order = ⟨[], none, false, 1⟩
    ∧ State.reset.sup.selector = .a ∧ State.reset.sup.periodTimer = none ∧ State.reset.sup.buffered = none
    ∧ State.reset.sup.sweep = none
    ∧ State.reset.port.upQueue = [] ∧ State.reset.port.downQueue = [] ∧ State.reset.port.answersU = ⟨[], []⟩
    ∧ State.reset.port.answersD = ⟨[], []⟩ ∧ State.reset.port.notices = [] ∧ State.reset.port.markU = .own
    ∧ State.reset.port.markD = .own ∧ State.reset.port.link = .standAlone ∧ State.reset.port.beatTimer = none
    ∧ State.reset.port.aloneSince = none
    ∧ State.reset.port.pause = false ∧ (∀ c, State.reset.counter c = 0)
    ∧ State.reset.port.lineU = [] ∧ State.reset.port.lineD = [] ∧ State.reset.port.lineF = []
    ∧ State.reset.sup.period = 0 ∧ State.reset.sup.missingLimit = 0 ∧ State.reset.clock = 0
    ∧ ∀ d, let r := State.reset.doorRecord d
        r.desired = .lock ∧ r.cause = .schedule ∧ r.contact = none ∧ r.feedback = none ∧ r.exitFlag = false
          ∧ r.fault = none

/-- What a port has received is read as a frame exactly when it is that frame's own bytes, check included, with no stop
bit missing and a payload of at most 48 bytes. -/
def Obligations.FramesReadAsTheyAreWritten : Prop :=
  ∀ (r : Received) (f : Frame),
    readFrame r = .ok f ↔ r.stopBitMissing = false ∧ r.bytes = f.bytes ∧ f.payload.length ≤ 48

/-- A received frame that fails the check of R147 counts once, in TOO_LONG of its port when over 56 bytes and in
BAD_FRAME otherwise, and changes nothing else. -/
def Obligations.DamagedFramesOnlyCount : Prop :=
  ∀ (s : State) (r : Received), ¬soundFrame r →
    (∀ p, exec (.backboneFrame p r) s =
      .next (s.count (if 56 < r.bytes.length then tooLongCounter p else badFrameCounter p)).beginPass)
    ∧ exec (.fieldFrame r) s = .next (s.count (if 56 < r.bytes.length then .tooLongF else .badFrameF)).beginPass

/-- A sound frame on a backbone port is the command that its kind and payload spell: each request, ORDER, BEAT, PAUSE
and RESUME (DEDUCED, log 8: the opcode table names the command of a frame and the command of its request both). A
REPORT, ANSWER or NOTICE that the part takes is discarded, and one for station 31 is repeated besides. -/
def Obligations.FramesCarryTheirCommands : Prop :=
  ∀ (s : State) (h : Header),
    (∀ q : Request, q.proper → q.payload.length ≤ 48 →
      exec (.backboneFrame h.port (headerFrame h .set q.payload).received) s = exec (q.command h) s)
    ∧ ∀ payload : List Byte, payload.length ≤ 48 →
      exec (.backboneFrame h.port (headerFrame h .order payload).received) s = exec (.relayedOrder h payload) s
      ∧ exec (.backboneFrame h.port (headerFrame h .beat payload).received) s = exec (.beat h payload) s
      ∧ exec (.backboneFrame h.port (headerFrame h .pause payload).received) s = exec (.pause h payload) s
      ∧ exec (.backboneFrame h.port (headerFrame h .resume payload).received) s = exec (.resume h payload) s
      ∧ (s.hears h → ∀ kind, kind = .report ∨ kind = .answer ∨ kind = .notice →
        exec (.backboneFrame h.port (headerFrame h kind payload).received) s =
          .next (s.repeated h.port (headerFrame h kind payload)).beginPass)

/-- A sound frame that the part does not take is repeated toward the other port with its hop count less 1, dropped and
counted in PASS_DROPPED when that queue holds 8, or dropped and counted in HOP_EXPIRED with no hops left. -/
def Obligations.FramesForOthersArePassedOn : Prop :=
  ∀ (s : State) (p : BackbonePort) (f : Frame), f.payload.length ≤ 48 → ¬s.takesFrame f →
    exec (.backboneFrame p f.received) s =
      .next (State.beginPass
        (if f.hop = 0#4 then s.count .hopExpired
        else if (s.passQueue (otherPort p)).length < 8 then
          s.putPassQueue (otherPort p) (s.passQueue (otherPort p) ++ [{ f with hop := f.hop - 1#4 }])
        else s.count (passDroppedCounter (otherPort p))))

/-- A SET or ORDER for station 31 that a numbered part takes is repeated while it has hops and is not judged: no
answer, no request executed, no order made, and the permit stands. -/
def Obligations.BroadcastRequestsAreNotJudged : Prop :=
  ∀ (s : State) (h : Header), s.mgmt.part ≠ .unnumbered → s.stationNumber ≠ 31#5 → h.destStation = 31#5 →
    let onward := fun f : Frame =>
      if h.hop = 0#4 then s
      else if (s.passQueue (otherPort h.port)).length < 8 then
        s.putPassQueue (otherPort h.port) (s.passQueue (otherPort h.port) ++ [{ f with hop := h.hop - 1#4 }])
      else s.count (passDroppedCounter (otherPort h.port))
    (∀ q : Request, q.proper → q.payload.length ≤ 48 →
      exec (q.command h) s = .next (onward (headerFrame h .set q.payload)).beginPass)
    ∧ ∀ payload : List Byte, payload.length ≤ 48 →
      exec (.relayedOrder h payload) s = .next (onward (headerFrame h .order payload)).beginPass

/-! ### Numbering, answering and judging -/

/-- A broadcast ASSIGN taken in UNNUMBERED: BAD_REQUEST, DENIED, BAD_VALUE, or the number adopted and the part
UNCONFIGURED; the ANSWER names 31 or the number just adopted as its source, and the frame is not repeated. -/
def Obligations.AssignNumbersThePart : Prop :=
  ∀ (s : State) (h : Header) (args : List Byte), 1 + args.length ≤ 48 → s.mgmt.part = .unnumbered →
    s.mgmt.station = none → h.destStation = 31#5 → s.answerRoom h.port = true →
    exec (.assign h args) s =
      .next (State.beginPass
        (match args with
        | [] => (s.taken h).answer h 0x01#8 .badRequest []
        | n :: _ =>
          if h.srcStation ≠ 0#5 then (s.taken h).answer h 0x01#8 .denied []
          else if n.toNat = 0 ∨ 30 < n.toNat then (s.taken h).answer h 0x01#8 .badValue []
          else
            { s.taken h with mgmt.part := .unconfigured, mgmt.station := some (BitVec.ofNat 5 n.toNat) }.answer h
              0x01#8 .done []))

/-- A SET or ORDER for this station, or a broadcast ASSIGN in UNNUMBERED, that finds 16 entries in its port's answer
queue is dropped and counted, and nothing else changes: the request is not executed, no number is adopted, no answer
is made and the permit stands. -/
def Obligations.FullAnswerQueueDropsRequests : Prop :=
  ∀ (s : State) (h : Header), 16 ≤ (s.answers h.port).size →
    (s.mgmt.part ≠ .unnumbered → h.destStation = s.stationNumber → h.destStation ≠ 31#5 →
      (∀ q : Request, q.proper → q.payload.length ≤ 48 →
        exec (q.command h) s = .next (s.count (requestsDroppedCounter h.port)).beginPass)
      ∧ ∀ payload : List Byte, payload.length ≤ 48 →
        exec (.relayedOrder h payload) s = .next (s.count (requestsDroppedCounter h.port)).beginPass)
    ∧ (s.mgmt.part = .unnumbered → h.destStation = 31#5 → ∀ args : List Byte, 1 + args.length ≤ 48 →
      exec (.assign h args) s = .next (s.count (requestsDroppedCounter h.port)).beginPass)

/-- Every SET that is taken gives a next state with exactly one ANSWER more on the port it came in on, addressed to its
source with its tag, and no more entries reserved; the answers of the other port are as they were. A RESTART frees the
entries reserved for relayed orders, and no other request does. -/
def Obligations.EveryTakenSetIsAnsweredOnce : Prop :=
  ∀ (s : State) (h : Header) (q : Request), s.takes h → q.proper → q.payload.length ≤ 48 →
    ∃ (t : State) (r : Result) (extra : List Byte),
      exec (q.command h) s = .next t
        ∧ (t.answers h.port).ready = (s.answers h.port).ready
          ++ [⟨h.srcStation, h.srcDevice, s.stationNumber, 0#7, .answer, 15#4, h.tag,
              q.answerCode :: BitVec.ofNat 8 r.code :: extra⟩]
        ∧ (t.answers (otherPort h.port)).ready = (s.answers (otherPort h.port)).ready
        ∧ (∀ p, (t.answers p).reserved = (s.answers p).reserved
            ∨ q = .restart ∧ (t.answers p).reserved = (s.answers p).reserved.filter (· == .forSet))

/-- The first three checks on a SET that is taken, in order: BAD_REQUEST for a payload no layout allows and for an
ASSIGN, DENIED for a source other than station 0, NOT_CONFIGURED before RUNNING. Each refusal is answered and changes
nothing else but the permit. -/
def Obligations.RequestsAreJudgedInOrder : Prop :=
  ∀ (s : State) (h : Header), s.takes h →
    (∀ payload : List Byte, payload.length ≤ 48 → readRequest payload = .bad payload →
      exec (.setBadRequest h payload) s =
        .next ((s.taken h).answer h (payload.headD Config.emptySetCode) .badRequest
          (if payload.head? = some 0x02#8 then [0#8] else [])).beginPass)
    ∧ (∀ args : List Byte, 1 + args.length ≤ 48 →
      exec (.assign h args) s = .next ((s.taken h).answer h 0x01#8 .badRequest []).beginPass)
    ∧ (∀ (t i : Byte) (entries : List Byte), 3 + entries.length ≤ 48 → (Request.loadTable t i entries).badForm = true →
      exec (.loadTable h t i entries) s = .next ((s.taken h).answer h 0x02#8 .badRequest [0#8]).beginPass)
    ∧ ∀ q : Request, q.proper → q.payload.length ≤ 48 → q.badForm = false →
      (h.srcStation ≠ 0#5 → (∀ t i n, q ≠ .readTable t i n) → (∀ k i, q ≠ .readState k i) →
        exec (q.command h) s = .next ((s.taken h).answer h q.answerCode .denied q.refusalExtra).beginPass)
      ∧ (h.srcStation = 0#5 → s.running = false → (∀ t i e, q ≠ .loadTable t i e) → (∀ t i n, q ≠ .readTable t i n) →
        (∀ k i, q ≠ .readState k i) → (∀ m, q ≠ .setMode m) →
        exec (q.command h) s = .next ((s.takenBy h q).answer h q.answerCode .notConfigured []).beginPass)

/-! ### Tables, records and counters -/

/-- LOAD-TABLE from station 0 with whole entries stores them in order until the first that is refused, and answers with
the result and the count stored. -/
def Obligations.LoadTableStoresUntilRefused : Prop :=
  ∀ (s : State) (h : Header) (code start : Byte) (entries : List Byte) (tb : Table), s.takes h → h.srcStation = 0#5 →
    3 + entries.length ≤ 48 → Table.ofCode code.toNat = some tb → entries ≠ [] → entries.length % tb.size = 0 →
    ∃ (t : State) (r : Result) (k : Nat),
      exec (.loadTable h code start entries) s =
        .next (t.answer h 0x02#8 r [BitVec.ofNat 8 k]).beginPass
      ∧ (s.taken h).stores tb start.toNat (chunks tb.size k entries) = some t
      ∧ (k = entries.length / tb.size ∧ r = .done
        ∨ k < entries.length / tb.size
          ∧ t.loadEntry tb (start.toNat + k) ((entries.drop (k * tb.size)).take tb.size) = .error r)

/-- A DEVICE, ZONE or CLASS entry offered to its table, field by field, and what a stored one does. A DEVICE entry
gives its device six periods seen, no trouble cause (with one TROUBLE notice if there was one), marks by its enabled
field, a fresh detector record if it is a detector, clear flags, and its restoration told if it was MISSING (log 23).
A ZONE entry makes a DISABLED zone NORMAL, or disables its zone: ALARM detectors of an ALERT returned, TEST ended, the
zone DISARMED; a zone whose counting changes has its occupancy zeroed. A CLASS entry takes its place in the table and
does nothing else. -/
def Obligations.DeviceZoneAndClassEntriesAreStored : Prop :=
  (∀ (s : State) (i : Nat) (b z c : Byte),
    let on := b.getLsbD 7
    let cls := s.classEntry c.toNat
    s.loadEntry .device i [b, z, c] =
      if i = 0 ∨ 126 < i then .error .badIndex
      else
        match DeviceKind.ofCode (b &&& 0x0F#8).toNat with
        | none => .error .badValue
        | some kind =>
          if z.toNat = 0 ∨ 24 < z.toNat ∨ 7 < c.toNat ∨ kind = .smoke ∧ cls.kind = some .heat
              ∨ kind = .heat ∧ cls.kind = some .smoke
              ∨ (s.deviceEntry i).kind ≠ some kind
                ∧ ((∃ n ∈ doorNumbers, (s.doorEntry n).enabled = true ∧ (s.doorEntry n).module = i)
                  ∨ ∃ n ∈ signNumbers, (s.signEntry n).enabled = true ∧ (s.signEntry n).device = i) then
            .error .badValue
          else if s.running = true ∧ s.detectorState i = some .alarm then .error .busyEntry
          else
            let detector : Option Detector :=
              if kind = .smoke ∨ kind = .heat then
                some ⟨if on then .quiet else .disabled, if cls.loaded then 16 * cls.b0 else 0,
                  if cls.loaded then cls.bmin else 0, if cls.loaded then cls.bmax else 0, 0, 0, .none, .none, none, none⟩
              else none
            let marked := fun (p : PresenceSet) (set : Vector Bool 127) =>
              if s.sup.selector = p then place set i on
              else if on = false then place set i false
              else if ∃ k ∈ s.sup.sweep, k ≤ i then place set i true
              else set
            let t : State := { s with
              mgmt.devices := place s.mgmt.devices i (⟨on, some kind, z.toNat, c.toNat, [b, z, c]⟩ : DeviceEntry)
              sup.records := place s.sup.records i (⟨[true, true, true, true, true, true], .empty⟩ : DeviceRecord)
              sup.setA := marked .a s.sup.setA
              sup.setB := marked .b s.sup.setB
              det.detectors := place s.det.detectors i detector
              zone.activated := place s.zone.activated i false
              guard.motion := place s.guard.motion i false }
            let u := if s.causes i = .empty then t
              else t.notify (.trouble i (some kind) z.toNat .empty (detector.map (·.state)))
            .ok (if s.missing i = false then u
              else if ∃ n ∈ signNumbers, (s.signEntry n).enabled = true ∧ (s.signEntry n).device = i then u.setStale.serve
              else u.serve))
    ∧ (∀ (s : State) (i : Nat) (b k m : Byte), (s.running = true ∨ s.fireState i ≠ .alarm) →
      let on := b.getLsbD 7
      s.loadEntry .zone i [b, k, m] =
        if i = 0 ∨ 24 < i then .error .badIndex
        else
          match ZoneKind.ofCode k.toNat, Coincidence.ofCode m.toNat with
          | some kind, some mode =>
            if s.running = true ∧ ∃ w ∈ zoneNumbers, s.fireState w = .alarm then .error .fireHold
            else
              let r := s.zoneRecord i
              let left := (s.guardRecord i).state
              let t : State := { s with
                mgmt.zones := place s.mgmt.zones i (⟨on, kind, mode, b.getLsbD 6, [b, k, m]⟩ : ZoneEntry)
                door.occupancy :=
                  if s.counted i = (on && b.getLsbD 6) then s.door.occupancy
                  else place s.door.occupancy i ⟨0, 0, 0⟩ }
              .ok (if on = true then
                  (if r.fire = .disabled then t.putZone i { r with fire := .normal } else t)
                else if r.fire = .disabled then t
                else
                  let off : ZoneRecord := ⟨.disabled, none, none, r.cause⟩
                  let u :=
                    match r.fire with
                    | .alert => (((t.returnDetectors i).putZone i off).workOutAll).setStale
                    | .test => (t.putZone i off).notify (.testEnd i .disabled)
                    | _ => t.putZone i off
                  let v := u.putGuard i ⟨.disarmed, none, none, none, none, 0⟩
                  if left = .disarmed then v else v.notify (.zoneDisarmed i left .disabled))
          | _, _ => .error .badValue)
    ∧ ∀ (s : State) (i : Nat) (b l1 l0 b1 b0 n1 n0 x1 x0 w ds dp1 dp0 da1 da0 dv ns np1 np0 na1 na0 nv : Byte),
      let bytes := [b, l1, l0, b1, b0, n1, n0, x1, x0, w, ds, dp1, dp0, da1, da0, dv, ns, np1, np0, na1, na0, nv]
      s.loadEntry .cls i bytes =
        if 7 < i then .error .badIndex
        else
          match DetectorKind.ofCode (b &&& 0x03#8).toNat with
          | none => .error .badValue
          | some kind =>
            let top := match kind with
              | .smoke => 1022
              | .heat => 254
            let day : JudgeSet := ⟨ds.toNat, read2 dp1 dp0, read2 da1 da0, dv.toNat⟩
            let night : JudgeSet := ⟨ns.toNat, read2 np1 np0, read2 na1 na0, nv.toNat⟩
            let outside := fun j : JudgeSet => 3 < j.s ∨ j.p = 0 ∨ j.a ≤ j.p ∨ top < j.a ∨ j.v = 0 ∨ 7 < j.v
            if top < read2 l1 l0 ∨ read2 n1 n0 = 0 ∨ read2 b1 b0 < read2 n1 n0 ∨ read2 x1 x0 < read2 b1 b0
                ∨ top < read2 x1 x0 ∨ w.toNat = 0 ∨ outside day ∨ outside night ∨ kind = .heat ∧ b.getLsbD 7 = true
                ∨ ∃ d ∈ deviceNumbers, (s.deviceEntry d).enabled = true ∧ (s.deviceEntry d).cls = i
                  ∧ ((s.deviceEntry d).kind = some .smoke ∧ kind = .heat
                    ∨ (s.deviceEntry d).kind = some .heat ∧ kind = .smoke) then
              .error .badValue
            else
              .ok (s.putClassEntry i
                ⟨true, some kind, b.getLsbD 7, read2 l1 l0, read2 b1 b0, read2 n1 n0, read2 x1 x0, w.toNat, day, night,
                  bytes⟩)

/-- A DOOR entry offered to its table, field by field, and what a stored one does: a fresh record with the desired
setting of the door's kind, demand and mode, in the settled state of that setting (none for a disabled door),
route-stale if its passability changed, and in RUNNING an order requested for an enabled door. The owed mark stays as
it was (log 25). The tables of desired settings and of passability are spelled out for every door. -/
def Obligations.DoorEntriesAreStored : Prop :=
  (∀ (s : State) (i : Nat) (b m k za zb a1 a0 b1 b0 : Byte),
    let on := b.getLsbD 7
    let bytes := [b, m, k, za, zb, a1, a0, b1, b0]
    s.loadEntry .door i bytes =
      if 31 < i then .error .badIndex
      else
        match DoorKind.ofCode k.toNat with
        | none => .error .badValue
        | some kind =>
          if m.toNat = 0 ∨ 126 < m.toNat ∨ 24 < za.toNat ∨ 24 < zb.toNat ∨ za = zb
              ∨ b.getLsbD 6 = true ∧ kind ≠ .secure ∨ 3600 < read2 a1 a0 ∨ read2 b1 b0 = 0 ∨ 3600 < read2 b1 b0
              ∨ (s.deviceEntry m.toNat).enabled = false ∨ (s.deviceEntry m.toNat).kind ≠ some .door
              ∨ on = true ∧ ∃ n ∈ doorNumbers, n ≠ i ∧ (s.doorEntry n).enabled = true
                ∧ (s.doorEntry n).module = m.toNat then
            .error .badValue
          else if s.running = true ∧ ∃ w ∈ zoneNumbers, s.fireState w = .alarm then .error .fireHold
          else if s.running = true
              ∧ ((∃ r ∈ s.order.pool, r.inFlight = true ∧ r.target = (s.doorEntry i).module)
                ∨ (s.doorRecord i).state = some .openAuth ∨ (s.doorRecord i).state = some .propped
                ∨ (s.doorRecord i).state = some .forced
                ∨ kind = .strongroom ∧ ∃ r ∈ s.order.pool, r.target = m.toNat ∧ r.code ≠ .lock) then
            .error .busyEntry
          else
            let stored := s.putDoorEntry i
              ⟨on, b.getLsbD 6, b.getLsbD 5, m.toNat, kind, za.toNat, zb.toNat, read2 a1 a0, read2 b1 b0, bytes⟩
            let want : Setting × DesiredCause := if on then stored.desiredOf i else (.lock, .schedule)
            let settled : DoorState :=
              match want.1 with
              | .lock => .secured
              | .unlock => if want.2 = .fire then .released else .free
              | .hold => .held
              | .release => .shut
            let t := stored.putDoor i
              ⟨if on then some settled else none, want.1, want.2, none, none, none, false, false, .closed, none, none,
                false, none, (s.doorRecord i).owed⟩
            let u := if t.passable i = s.passable i then t else t.setStale
            .ok (if on = true ∧ s.running = true then u.requestDoor i else u))
    ∧ ∀ (s : State) (d : Nat),
      let e := s.doorEntry d
      let full := (e.sideA ≠ 0 ∧ s.fireState e.sideA = .alarm) ∨ (e.sideB ≠ 0 ∧ s.fireState e.sideB = .alarm)
      let compartment := (e.sideA ≠ 0 ∧ s.fireState e.sideA = .alert) ∨ (e.sideB ≠ 0 ∧ s.fireState e.sideB = .alert)
      s.desiredOf d =
          (match e.kind, s.mgmt.mode with
          | .egress, .day => (.unlock, if full then .fire else .schedule)
          | .egress, .night => if full then (.unlock, .fire) else (.lock, .schedule)
          | .secure, .day => (.unlock, if full ∧ e.fireRelease = true then .fire else .schedule)
          | .secure, .night => if full ∧ e.fireRelease = true then (.unlock, .fire) else (.lock, .schedule)
          | .fire, .day => if full ∨ compartment then (.release, .fire) else (.hold, .schedule)
          | .fire, .night => (.release, if full ∨ compartment then .fire else .schedule)
          | .strongroom, _ => (.lock, .schedule))
        ∧ (s.passable d = true ↔ e.enabled = true ∧ ∃ st, (s.doorRecord d).state = some st
          ∧ (e.kind = .fire ∨ e.kind = .egress ∧ st ≠ .secured ∧ st ≠ .ajar
            ∨ e.kind = .secure ∧ st ≠ .secured ∧ st ≠ .ajar ∧ st ≠ .fault))

/-- A SIGN entry offered to its table, field by field, and what a stored one does: a fresh record whose desired
display is the steady arrow of the default option, with the owed mark of an enabled sign kept, and route-stale set. A
wing record is refused BAD_VALUE with a field outside its range and FIRE_HOLD while a zone is in ALARM in RUNNING, each
with a count of 0; a stored one takes its place with the permission bits of devices 0 and 127 clear, its period and
missing limit are buffered, and the first one after a cold start starts the period timer with the period it carries. -/
def Obligations.SignAndWingEntriesAreStored : Prop :=
  (∀ (s : State) (i : Nat) (b dev dflt : Byte) (slots : List (List Byte)), slots.length = 4 →
    (∀ w ∈ slots, w.length = 7) →
    let on := b.getLsbD 7
    let bytes := b :: dev :: dflt :: slots.flatten
    let used := slots.filter fun w => w.headD 0#8 ≠ 0#8
    let zones := fun w : List Byte => ((w.drop 1).take 4).filter (· ≠ 0#8)
    let doors := fun w : List Byte => (w.drop 5).filter (· ≠ 0xFF#8)
    s.loadEntry .sign i bytes =
      if 47 < i then .error .badIndex
      else if dev.toNat = 0 ∨ 126 < dev.toNat ∨ dflt.toNat = 0 ∨ 4 < dflt.toNat
          ∨ (∃ w ∈ slots[dflt.toNat - 1]?, w.headD 0#8 = 0#8)
          ∨ (∃ w ∈ used, Arrow.ofSlotCode (w.headD 0#8).toNat = none ∨ (∃ z ∈ zones w, 24 < z.toNat)
            ∨ ¬(zones w).Nodup ∨ (∃ d ∈ doors w, 31 < d.toNat) ∨ ¬(doors w).Nodup)
          ∨ ¬(used.map (·.headD 0#8)).Nodup
          ∨ (s.deviceEntry dev.toNat).enabled = false ∨ (s.deviceEntry dev.toNat).kind ≠ some .sign
          ∨ (on = true ∧ ∃ n ∈ signNumbers, n ≠ i ∧ (s.signEntry n).enabled = true
            ∧ (s.signEntry n).device = dev.toNat)
          ∨ (∃ w ∈ used, ∃ d ∈ doors w, (s.doorEntry d.toNat).kind = .strongroom) then
        .error .badValue
      else if s.running = true ∧ ∃ w ∈ zoneNumbers, s.fireState w = .alarm then .error .fireHold
      else
        let options : List (Option SignOption) := slots.map fun w =>
          (Arrow.ofSlotCode (w.headD 0#8).toNat).map fun a => ⟨a, (zones w).map (·.toNat), (doors w).map (·.toNat)⟩
        let default : Option Display := ((options[dflt.toNat - 1]?).join).map fun o => .steady o.arrow
        .ok (((s.putSignEntry i ⟨on, dev.toNat, dflt.toNat, options, bytes⟩).putSign i
          ⟨default, none, none, false, on && (s.signRecord i).owed⟩).setStale))
    ∧ ∀ (s : State) (h : Header) (per lim beat kw1 kw0 walk a1 a0 b1 b0 ab ub ex en wm mask pt m0 m15 : Byte)
      (middle : List Byte), s.takes h → h.srcStation = 0#5 → middle.length = 14 →
      let entry := [per, lim, beat, kw1, kw0, walk, a1, a0, b1, b0, ab, ub, ex, en, wm, mask, pt, m0] ++ middle ++ [m15]
      let w : WingRecord := {
        loaded := true
        period := per.toNat
        missingLimit := lim.toNat
        beatTimeout := beat.toNat
        knockWindow := read2 kw1 kw0
        walkLimit := walk.toNat
        stepA := read2 a1 a0
        cycleB := read2 b1 b0
        assistBase := ab.toNat
        urgentBase := ub.toNat
        exitDelay := ex.toNat
        entryDelay := en.toNat
        watchMode := if wm.toNat = 0 then .quiet else if wm.toNat = 1 then .trouble else .all
        watchMask := mask
        pulseTime := pt.toNat
        permission := (m0 &&& 0x7F#8) :: middle ++ [m15 &&& 0xFE#8]
        asLoaded := entry }
      exec (.loadTable h 0#8 0#8 entry) s =
        .next (State.beginPass
          (if per.toNat < 2 ∨ 60 < per.toNat ∨ lim.toNat < 1 ∨ 6 < lim.toNat ∨ 60 < beat.toNat ∨ read2 kw1 kw0 < 30
              ∨ 600 < read2 kw1 kw0 ∨ walk.toNat < 1 ∨ 240 < walk.toNat ∨ 3600 < read2 a1 a0 ∨ read2 b1 b0 < 10
              ∨ 3600 < read2 b1 b0 ∨ 7 < ab.toNat ∨ 7 < ub.toNat ∨ pt.toNat < 1 ∨ 30 < pt.toNat ∨ 2 < wm.toNat then
            (s.taken h).answer h 0x02#8 .badValue [0#8]
          else if s.running = true ∧ ∃ z ∈ zoneNumbers, s.fireState z = .alarm then
            (s.taken h).answer h 0x02#8 .fireHold [0#8]
          else
            let t := { s.taken h with mgmt.wing := w, sup.buffered := some (w.period, w.missingLimit) }
            if s.mgmt.wing.loaded = true then t.answer h 0x02#8 .done [1#8]
            else
              { t with sup.period := w.period, sup.periodTimer := some ⟨s.clock, w.period * 25000⟩ }.answer h 0x02#8 .done
                [1#8]))

/-- READ-TABLE, from any station and in UNCONFIGURED and RUNNING alike: BAD_REQUEST, BAD_VALUE, BAD_INDEX in this
order, or the entries from the index on, as many whole ones as fit and at most the count asked for. -/
def Obligations.ReadTableAnswersWholeEntries : Prop :=
  ∀ (s : State) (h : Header) (code start count : Byte), s.takes h →
    exec (.readTable h code start count) s =
      .next (State.beginPass
        (match Table.ofCode code.toNat with
        | none => (s.taken h).answer h 0x03#8 .badRequest []
        | some tb =>
          if count.toNat = 0 ∨ 16 < count.toNat then (s.taken h).answer h 0x03#8 .badValue []
          else if start.toNat < tb.first ∨ tb.last < start.toNat + count.toNat - 1 then
            (s.taken h).answer h 0x03#8 .badIndex []
          else
            let n := min count.toNat (45 / tb.readSize)
            (s.taken h).answer h 0x03#8 .done
              (BitVec.ofNat 8 n :: (List.range n).flatMap fun i => s.entryBytes tb (start.toNat + i))))

/-- An entry that is stored, with the bits and bytes R178 ignores clear, reads back as the bytes it was loaded with, the
list bytes of a sign's option slots where they stood, gaps between them and all; the wing record stands after its loaded
mark. -/
def Obligations.LoadedEntriesReadBack : Prop :=
  ∀ (s t : State) (tb : Table) (i : Nat) (b : Byte) (rest : List Byte), s.loadEntry tb i (b :: rest) = .ok t →
    (tb = .zone → b &&& 0x3F#8 = 0#8 → t.entryBytes .zone i = b :: rest)
    ∧ (tb = .device → b &&& 0x70#8 = 0#8 → t.entryBytes .device i = b :: rest)
    ∧ (tb = .cls → b &&& 0x7C#8 = 0#8 → t.entryBytes .cls i = b :: rest)
    ∧ (tb = .door → b &&& 0x1F#8 = 0#8 → t.entryBytes .door i = b :: rest)
    ∧ (tb = .sign → b &&& 0x7F#8 = 0#8 →
        (∀ k, k < 4 → ∀ x ∈ (rest[7 * k + 2]?), x = 0#8 → ∀ y ∈ (rest.drop (7 * k + 2)).take 7, y = 0#8) →
        t.entryBytes .sign i = b :: rest)
    ∧ (tb = .wing → clearIgnored ((b :: rest).drop 17) = (b :: rest).drop 17 →
        t.entryBytes .wing i = 0x01#8 :: b :: rest)

/-- READ-STATE, from any station and in UNCONFIGURED and RUNNING alike, answers the record of the object named as it
stands, or the result that refuses it, and changes nothing but the permit. Every record answered holds at most 41 bytes,
and that of an enabled sign exactly 41, while the sign entries have four slots of at most four zones and two doors each
and the fire zone list holds at most 24 zones. The bytes of each record are spelled out field by field in the order its
rule lists them, and the codes of its fields as chapter 11 numbers them. The model's choices among them: a line of a rule
that names two things gives two fields, and the record in flight is four bytes of none without one (log 20); a remainder
of a time is rounded by a free value (log 5); the place in the fire zone list counts from 1 (log 32); seconds in a call's
record and in the part summary (log 36); the fill of a slot's lists (log 37) and of an empty slot (log 45); the fields of a
timer that does not run (log 42); the beat timer as a flag (log 43). -/
def Obligations.ReadStateAnswersTheRecord : Prop :=
  (∀ (s : State) (h : Header) (object index : Byte), s.takes h →
    exec (.readState h object index) s =
      .next (State.beginPass
        (match object.toNat with
        | 0 =>
          if 1 ≤ index.toNat ∧ index.toNat ≤ 126 then
            (s.taken h).answer h 0x04#8 .done (s.deviceBytes index.toNat)
          else (s.taken h).answer h 0x04#8 .badIndex []
        | 1 =>
          if 1 ≤ index.toNat ∧ index.toNat ≤ 24 then (s.taken h).answer h 0x04#8 .done (s.zoneBytes index.toNat)
          else (s.taken h).answer h 0x04#8 .badIndex []
        | 2 =>
          if index.toNat ≤ 31 then (s.taken h).answer h 0x04#8 .done (s.doorBytes index.toNat)
          else (s.taken h).answer h 0x04#8 .badIndex []
        | 3 =>
          if index.toNat ≤ 47 then (s.taken h).answer h 0x04#8 .done (s.signBytes index.toNat)
          else (s.taken h).answer h 0x04#8 .badIndex []
        | 4 =>
          match s.liveCall index.toNat with
          | some c => (s.taken h).answer h 0x04#8 .done (s.callBytes c)
          | none => (s.taken h).answer h 0x04#8 .badIndex []
        | 5 =>
          (s.taken h).answer h 0x04#8 .done
            (BitVec.ofNat 8 s.zone.fireList.length :: s.zone.fireList.map fun z => BitVec.ofNat 8 z)
        | 6 => (s.taken h).answer h 0x04#8 .done s.summaryBytes
        | _ => (s.taken h).answer h 0x04#8 .badRequest [])))
    ∧ (∀ (s : State) (object index : Nat) (record : List Byte), s.readObject object index = .ok record →
    (∀ n, (s.signEntry n).slots.length = 4
      ∧ ∀ o, some o ∈ (s.signEntry n).slots → o.zones.length ≤ 4 ∧ o.doors.length ≤ 2) →
    s.zone.fireList.length ≤ 24 →
    record.length ≤ 41 ∧ (object = 3 → (s.signEntry index).enabled = true → record.length = 41))
    ∧ (∀ s : State,
      let one : Nat → List Byte := fun n => [BitVec.ofNat 8 n]
      let two : Nat → List Byte := fun n => [BitVec.ofNat 8 (n / 256), BitVec.ofNat 8 n]
      let flag : Bool → List Byte := fun b => [if b then 1#8 else 0#8]
      let orOne : Option Nat → List Byte := fun o => one (o.getD 255)
      let bit : Bool → Nat → Nat := fun b n => if b then n else 0
      let units : Nat → Nat → Nat := fun ticks unit =>
        if ticks % unit = 0 then ticks / unit
        else if Config.roundsTimeUp ticks unit then ticks / unit + 1
        else ticks / unit
      let left : Option Timer → Nat → List Byte := fun t secs =>
        match t with
        | none => two 65535
        | some t => two (units (t.start + t.len - s.clock) (secs * 25000))
      let place : Option Nat → List Byte := fun o =>
        match o with
        | none => one 255
        | some k => one (k + 1)
      let shown : Option Display → List Byte := fun x => orOne (x.map Display.code)
      (∀ d, let e := s.deviceEntry d
        let r := s.device d
        let c := r.causes
        let detector : List Byte :=
          match s.detector d with
          | none => []
          | some x =>
            one x.state.code ++ one x.verify ++ two x.baseline ++ two x.limitLow ++ two x.limitHigh
              ++ two (x.filtered % 65536).toNat ++ one x.lastClass.code ++ one x.lastCompare.code
              ++ two (x.lastNormal.getD 65535) ++ orOne (x.lastSet.map WingMode.code)
        s.deviceBytes d =
          flag e.enabled ++ one (DeviceKind.code e.kind) ++ one e.zone ++ flag (s.mark s.sup.selector d)
            ++ one (r.history.foldl (fun n seen => 2 * n + bit seen 1) 0) ++ one (r.history.count false)
            ++ flag c.missing
            ++ one (bit c.missing 0x80 + bit c.fault 0x40 + bit c.low 0x20 + bit c.compLimit 0x10 + bit c.tamper 0x08
              + bit c.signFault 0x04 + bit c.lampFault 0x02)
            ++ (if e.kind = some .smoke ∨ e.kind = some .heat then detector
              else if e.kind = some .motion then flag (s.motionFlag d)
              else if e.kind = some .help then orOne ((s.call.calls.find? (·.point == d)).map (·.number))
              else []))
      ∧ (∀ z, let e := s.zoneEntry z
        let r := s.zoneRecord z
        let g := s.guardRecord z
        let o := s.occupancy z
        s.zoneBytes z =
          flag e.enabled ++ one e.kind.code ++ one e.mode.code ++ flag e.counted
            ++ one r.fire.code ++ one (if r.fire = .alarm then 2 else if r.fire = .alert then 1 else 0)
            ++ left r.window 1 ++ left r.walk 60 ++ orOne r.cause
            ++ one (deviceNumbers.filter fun d =>
              (s.deviceEntry d).zone == z && (s.detector d).map (·.state) == some .alarm).length
            ++ place (s.zone.fireList.findIdx? (· == z))
            ++ one (deviceNumbers.filter fun d =>
              (s.deviceEntry d).enabled && (s.deviceEntry d).zone == z && s.causes d != .empty).length
            ++ one g.state.code ++ left (g.exitTimer.or g.entryTimer) 1 ++ orOne g.entering
            ++ orOne (g.source.map (·.1.code)) ++ orOne (g.source.map (·.2)) ++ one g.further
            ++ two o.count ++ one o.undercount ++ one o.overcount)
      ∧ (∀ d, let e := s.doorEntry d
        let r := s.doorRecord d
        let orders : Bool → List Byte := fun flying =>
          flag (s.order.pool.any fun q => q.inFlight == flying && q.target == e.module
            && match q.code with
              | .lock => true
              | .unlock => true
              | .pulse _ => true
              | .hold => true
              | .release => true
              | .display _ => false
              | .lamp _ => false
              | .raw _ => false)
        s.doorBytes d =
          flag e.enabled ++ one e.module ++ one e.kind.code ++ one e.sideA ++ one e.sideB ++ flag e.fireRelease
            ++ flag e.entryDoor ++ two e.heldA ++ two e.heldB
            ++ if e.enabled = false then []
              else
                orOne (r.state.map DoorState.code) ++ flag (s.passable d) ++ one r.desired.code ++ one r.cause.code
                  ++ orOne (r.commanded.map Setting.code) ++ orOne (r.contact.map Contact.code)
                  ++ orOne (r.feedback.map LockFeedback.code) ++ flag r.exitFlag ++ flag r.latch
                  ++ orOne (r.fault.map FaultCause.code) ++ one r.window.code ++ left r.pulseTimer 1
                  ++ two ((r.heldTimer.map fun t => units (s.clock - t.start) 25000).getD 65535)
                  ++ orders false ++ orders true ++ flag r.owed)
      ∧ (∀ n, let e := s.signEntry n
        let r := s.signRecord n
        let slots := e.slots.flatMap fun x =>
          match x with
          | none => List.replicate 7 0#8
          | some o =>
            one o.arrow.slotCode ++ o.zones.flatMap one ++ List.replicate (4 - o.zones.length) 0#8
              ++ o.doors.flatMap one ++ List.replicate (2 - o.doors.length) 255#8
        let ordered := fun flying : Bool =>
          (s.order.pool.filter fun q => q.inFlight == flying && q.target == e.device).findSome? fun q =>
            match q.code with
            | .display x => some x
            | _ => none
        let slot : List Byte :=
          match r.desired with
          | some (.steady a) => place (e.slots.findIdx? fun x => x.map (·.arrow) == some a)
          | some (.flashing a) => place (e.slots.findIdx? fun x => x.map (·.arrow) == some a)
          | _ => one 255
        s.signBytes n =
          flag e.enabled ++ one e.device ++ one e.default ++ slots
            ++ if e.enabled = false then []
              else
                shown r.desired ++ slot ++ shown r.commanded
                  ++ shown ((ordered false).or ((ordered true).or r.commanded)) ++ shown r.echo ++ flag r.fault
                  ++ flag (s.causes e.device).missing ++ flag (s.causes e.device).signFault
                  ++ flag ((ordered false).isSome || (ordered true).isSome) ++ flag r.owed)
      ∧ (∀ c : Call,
        let queue := [7, 6, 5, 4, 3, 2, 1, 0].flatMap fun p => s.call.calls.filter (·.priority == p)
        s.callBytes c =
          one c.number ++ one c.point ++ one c.zone ++ one c.kind.code ++ one c.priority ++ one c.state.code ++ one c.press
            ++ flag c.trapped ++ flag c.unanswered ++ place (queue.findIdx? (·.number == c.number))
            ++ match c.timer with
              | none => [0#8, 255#8, 255#8, 255#8, 255#8, 255#8]
              | some t =>
                flag true
                  ++ two (if t.stepped = true ∨ t.cycleB ≤ t.stepA then 65535
                    else units (t.start + t.stepA * 25000 - s.clock) 25000)
                  ++ two (units (t.start + t.cycleB * 25000 - s.clock) 25000) ++ one c.cycles)
      ∧ s.summaryBytes =
        one s.mgmt.part.code ++ one s.stationNumber.toNat ++ one s.mgmt.mode.code ++ flag s.mgmt.wing.loaded
          ++ left s.sup.periodTimer 1 ++ flag s.zone.evacuation ++ flag s.zone.routeStale
          ++ orOne s.zone.fireList.head? ++ one s.zone.fireList.length ++ one s.call.attention
          ++ one s.call.calls.length ++ orOne ((s.call.calls.find? (·.state == .offered)).map (·.number))
          ++ one (signNumbers.filter fun n =>
            (s.signEntry n).enabled && (s.signRecord n).desired == some .cross).length
          ++ one (s.order.pool.filter (·.cls == 0)).length ++ one (s.order.pool.filter (·.cls == 1)).length
          ++ one (s.order.pool.filter (·.cls == 2)).length
          ++ (match s.order.pool.find? (·.inFlight) with
            | none => [255#8, 255#8, 255#8, 255#8]
            | some q =>
              one q.target
                ++ (match q.code with
                  | .lock => [1#8]
                  | .unlock => [2#8]
                  | .pulse n => 3#8 :: one n
                  | .hold => [4#8]
                  | .release => [5#8]
                  | .display x => 6#8 :: one x.code
                  | .lamp l => 7#8 :: one l.code
                  | .raw b => 8#8 :: one b.length)
                ++ one q.cls ++ one q.attempts)
          ++ flag s.order.halt ++ one (doorNumbers.filter fun d => (s.doorRecord d).owed).length
          ++ one (signNumbers.filter fun n => (s.signRecord n).owed).length ++ one s.port.link.code
          ++ flag s.port.beatTimer.isSome ++ flag s.port.pause)
    ∧ [DetectorState.disabled, .quiet, .pre, .verify, .alarm, .trouble].map (·.code) = List.range 6
    ∧ [Classification.none, .fault, .saturated, .low, .normal, .absent].map (·.code) = List.range 6
    ∧ [Compare.none, .below, .pre, .above, .unordered].map (·.code) = List.range 5
    ∧ [none, some DeviceKind.smoke, some .heat, some .mcp, some .motion, some .door, some .help, some .sign].map
      DeviceKind.code = List.range 8
    ∧ [ZoneKind.gallery, .corridor, .stair, .strongroom, .service].map (·.code) = List.range 5
    ∧ [Coincidence.single, .double].map (·.code) = List.range 2
    ∧ [FireState.disabled, .normal, .alert, .alarm, .test].map (·.code) = List.range 5
    ∧ [GuardState.disarmed, .exiting, .armed, .entering, .intrusion].map (·.code) = List.range 5
    ∧ [SourceKind.motion, .opening, .forced, .exitRequest, .help, .tamper, .entryDelay].map (·.code) = [1, 2, 3, 4, 5, 6, 7]
    ∧ [DoorKind.egress, .fire, .secure, .strongroom].map (·.code) = List.range 4
    ∧ [DoorState.secured, .ajar, .free, .held, .shut, .openAuth, .propped, .forced, .released, .fault].map (·.code)
      = List.range 10
    ∧ [Setting.lock, .unlock, .hold, .release].map (·.code) = List.range 4
    ∧ [DesiredCause.schedule, .fire].map (·.code) = List.range 2
    ∧ [Contact.closed, .open].map (·.code) = [1, 2]
    ∧ [LockFeedback.locked, .held, .unlocked, .free].map (·.code) = [1, 1, 2, 2]
    ∧ [PulseWindow.closed, .pending, .open].map (·.code) = List.range 3
    ∧ [FaultCause.missing, .orderFailed].map (·.code) = List.range 2
    ∧ [CallKind.assist, .urgent].map (·.code) = [1, 2] ∧ [CallState.waiting, .offered, .taken].map (·.code) = List.range 3
    ∧ [LampState.off, .waiting, .answered, .busy].map (·.code) = List.range 4
    ∧ [Arrow.left, .right, .ahead, .up, .down].map (·.slotCode) = [1, 2, 3, 4, 5]
    ∧ [Display.dark, .cross, .steady .left, .steady .right, .steady .ahead, .steady .up, .steady .down, .flashing .left,
        .flashing .right, .flashing .ahead, .flashing .up, .flashing .down].map (·.code)
      = [0, 1, 16, 17, 18, 19, 20, 24, 25, 26, 27, 28]
    ∧ [PartState.unnumbered, .unconfigured, .running].map (·.code) = List.range 3
    ∧ [LinkState.standAlone, .online].map (·.code) = List.range 2 ∧ [WingMode.day, .night].map (·.code) = List.range 2

/-- READ-COUNTERS answers the 17 counters as they stand, two bytes each, and every counter then becomes 0; a source
other than station 0 is DENIED and zeroes nothing. -/
def Obligations.ReadCountersAnswersAndZeroes : Prop :=
  ∀ (s : State) (h : Header), s.takes h → s.running = true →
    exec (.readCounters h) s =
      .next (State.beginPass
        (if h.srcStation ≠ 0#5 then (s.taken h).answer h 0x05#8 .denied []
        else
          { s.taken h with port.counters := Vector.replicate 17 0 }.answer h 0x05#8 .done
            ([Counter.badFrameU, .badFrameD, .badFrameF, .tooLongU, .tooLongD, .tooLongF, .hopExpired, .passDroppedUp,
              .passDroppedDown, .noticesDropped, .ordersFailed, .ordersDenied, .ordersSkipped, .callsLost,
              .unknownDevice, .requestsDroppedU, .requestsDroppedD].flatMap fun c =>
                [BitVec.ofNat 8 (s.counter c / 256), BitVec.ofNat 8 (s.counter c)])))

/-! ### Wing mode and restart -/

/-- SET-MODE: BAD_VALUE for a mode other than DAY and NIGHT; NOT_CONFIGURED before a wing record is loaded; the entry to
RUNNING; and in RUNNING the new mode, with every desired setting worked out again and route-stale set. The settings are
worked out in door order (log 46), each by R62: a disabled door, and one whose setting and cause come out as they were,
stay as they are; before RUNNING and in FAULT the record alone follows; a setting that differs from the commanded one, or
meets a commanded UNKNOWN, requests its order, in class 0 with NOTIFY for FIRE and in class 1 otherwise; one equal to the
commanded one renews an order that waits or is owed, and the door takes its settled state. -/
def Obligations.SetModeChangesTheMode : Prop :=
  (∀ (s : State) (h : Header) (mode : Byte) (m : WingMode), s.takes h →
    (1 < mode.toNat ∨ mode.toNat = m.code) →
    exec (.setMode h mode) s =
      .next (State.beginPass
        (if h.srcStation ≠ 0#5 then (s.taken h).answer h 0x06#8 .denied []
        else if 1 < mode.toNat then (s.taken h).answer h 0x06#8 .badValue []
        else if s.running = true then
          if m = s.mgmt.mode then (s.taken h).answer h 0x06#8 .done []
          else (({ s.taken h with mgmt.mode := m }.workOutAll).setStale).answer h 0x06#8 .done []
        else if s.mgmt.wing.loaded = false then (s.taken h).answer h 0x06#8 .notConfigured []
        else ((s.taken h).enterRunning m).answer h 0x06#8 .done [])))
    ∧ (∀ s : State, s.workOutAll = doorNumbers.foldl State.workOut s)
    ∧ ∀ (s : State) (d : Nat),
      let e := s.doorEntry d
      let r := s.doorRecord d
      let full := (e.sideA ≠ 0 ∧ s.fireState e.sideA = .alarm) ∨ (e.sideB ≠ 0 ∧ s.fireState e.sideB = .alarm)
      let compartment := (e.sideA ≠ 0 ∧ s.fireState e.sideA = .alert) ∨ (e.sideB ≠ 0 ∧ s.fireState e.sideB = .alert)
      let new : Setting × DesiredCause :=
        match e.kind, s.mgmt.mode with
        | .egress, .day => (.unlock, if full then .fire else .schedule)
        | .egress, .night => if full then (.unlock, .fire) else (.lock, .schedule)
        | .secure, .day => (.unlock, if full ∧ e.fireRelease = true then .fire else .schedule)
        | .secure, .night => if full ∧ e.fireRelease = true then (.unlock, .fire) else (.lock, .schedule)
        | .fire, .day => if full ∨ compartment then (.release, .fire) else (.hold, .schedule)
        | .fire, .night => (.release, if full ∨ compartment then .fire else .schedule)
        | .strongroom, _ => (.lock, .schedule)
      let kept := s.putDoor d { r with desired := new.1, cause := new.2 }
      let code : OrderCode :=
        match new.1 with
        | .lock => .lock
        | .unlock => .unlock
        | .hold => .hold
        | .release => .release
      let made := takeRequest ⟨e.module, code, if new.2 = .fire then 0 else 1, decide (new.2 = .fire)⟩ s.order.pool
      let taken := fun (t : State) (x : List OrderRecord × Bool) =>
        if x.2 = true then (t.putPool x.1).serve else (t.putPool x.1).lookForSend
      let owing := fun owed : Bool => kept.putDoor d { r with desired := new.1, cause := new.2, owed := owed }
      let requested : State :=
        if r.owed = true ∧ s.missing e.module = true then kept
        else
          match made with
          | some x => taken (if r.owed = true then owing false else kept) x
          | none => if r.owed = true then kept else (owing true).serve
      let waits := ∃ q ∈ s.order.pool, q.inFlight = false ∧ q.target = e.module
        ∧ (q.code = .lock ∨ q.code = .unlock ∨ q.code = .hold ∨ q.code = .release)
      let settled : DoorState :=
        match new.1 with
        | .unlock => if new.2 = .fire then .released else if r.latch = true then .forced else .free
        | .lock =>
          if r.state = some .openAuth then .openAuth
          else if r.state = some .propped then .propped
          else if r.latch = true then .forced
          else if r.contact = some .open then .ajar
          else .secured
        | .hold => .held
        | .release => .shut
      let settle := fun t : State =>
        if r.state = some settled then t
        else
          let u := t.putDoor d { t.doorRecord d with
            state := some settled
            window := if r.state = some .secured then .closed else r.window
            pulseTimer := if r.state = some .secured then none else r.pulseTimer
            heldTimer := none
            heldReached := false }
          if u.passable d = s.passable d then u else u.setStale
      s.workOut d =
        if e.enabled = false ∨ new = (r.desired, r.cause) then s
        else if s.running = false ∨ r.state = some .fault then kept
        else if r.commanded ≠ some new.1 then requested
        else settle (if r.owed = true ∨ waits then requested else kept)

/-- The entry to RUNNING: the mode and part state, a pass over the signs begun, every enabled door with the desired
setting of its kind, demand and mode; a door whose module is MISSING in FAULT and owed, and every other enabled door
owed or with an order for its desired setting in the pool. -/
def Obligations.EntryToRunningOrdersEveryDoor : Prop :=
  ∀ (s : State) (h : Header) (mode : Byte) (m : WingMode), s.takes h → h.srcStation = 0#5 → mode.toNat = m.code →
    s.running = false → s.mgmt.wing.loaded = true → s.modulesLaw → s.sign.pass = none →
    ∃ t, exec (.setMode h mode) s = .next t ∧ t.running = true ∧ t.mgmt.mode = m ∧ t.zone.routeStale = true
      ∧ t.sign.pass = some 0
      ∧ ∀ d, (s.doorEntry d).enabled = true →
        ((t.doorRecord d).desired, (t.doorRecord d).cause) = t.desiredOf d
        ∧ (s.enabledAs (s.doorEntry d).module .door = true → 1 ≤ (s.doorEntry d).module →
            (s.doorEntry d).module ≤ 126 → s.missing (s.doorEntry d).module = true →
            (t.doorRecord d).state = some .fault ∧ (t.doorRecord d).owed = true)
        ∧ (s.missing (s.doorEntry d).module = false →
            (t.doorRecord d).owed = true
              ∨ ∃ r ∈ t.order.pool, r.target = (s.doorEntry d).module ∧ r.code = (t.doorRecord d).desired.order)

/-- RESTART leaves what the hot start of each unit lays down. Tables, part state, number and mode are kept; calls,
attention level, permit, pause and class 2 halt cleared; fire states kept but TEST, which becomes NORMAL, and the
window of a zone in ALERT restarted. Enabled doors keep their state, latch and contact, with the desired setting
worked out, the commanded one UNKNOWN, the window CLOSED, the held timer of OPEN_AUTH restarted (with compare A of 0
reached at once, log 27) and an order for each standing or owed. Running guard delays restart; one that is 0 now has
expired (logs 13 and 35). Sign records keep all but the commanded display and the owed mark. The pool holds lamp OFF
orders of the calls removed and orders of doors, the first of them in flight; the counters are kept, and the notice
queue is emptied. -/
def Obligations.RestartKeepsAndClears : Prop :=
  ∀ (s : State) (h : Header), s.admits h →
    ∃ t, exec (.restart h) s = .next t
      ∧ t.mgmt = s.mgmt
      ∧ t.sup.records = s.sup.records ∧ t.sup.setA = s.sup.setA ∧ t.sup.setB = s.sup.setB
      ∧ t.sup.selector = s.sup.selector ∧ t.sup.sweep = s.sup.sweep ∧ t.sup.buffered = s.sup.buffered
      ∧ t.sup.periodTimer = s.sup.periodTimer.map (fun _ => ⟨s.clock, s.sup.period * 25000⟩)
      ∧ (∀ d < 127, t.detector d = (s.detector d).map fun det =>
          { det with
            state := if det.state = .pre ∨ det.state = .verify then .quiet else det.state
            filtered := 0
            verify := 0
            lastNormal := none })
      ∧ (∀ z < 25, t.zoneRecord z =
          ⟨if s.fireState z = .test then .normal else s.fireState z,
            if s.fireState z = .alert then some ⟨s.clock, s.mgmt.wing.knockWindow * 25000⟩ else none, none,
            (s.zoneRecord z).cause⟩)
      ∧ t.zone.fireList = s.zone.fireList ∧ t.zone.evacuation = s.zone.evacuation
      ∧ t.zone.activated = s.zone.activated ∧ t.zone.routeStale = true
      ∧ (∀ d < 32, let r := s.doorRecord d
          let e := s.doorEntry d
          t.doorRecord d =
            if e.enabled = false then { r with owed := (t.doorRecord d).owed }
            else { r with
              desired := (t.desiredOf d).1
              cause := (t.desiredOf d).2
              commanded := none
              window := .closed
              pulseTimer := none
              heldTimer := if r.state = some .openAuth then some ⟨s.clock, e.heldB * 25000⟩ else none
              heldReached := decide (r.state = some .openAuth ∧ e.heldA = 0 ∧ 0 < e.heldB)
              owed := (t.doorRecord d).owed })
      ∧ (s.modulesLaw → ∀ d < 32, (s.doorEntry d).enabled = true → (t.doorRecord d).owed = true
          ∨ ∃ r ∈ t.order.pool, r.target = (s.doorEntry d).module ∧ r.code = (t.doorRecord d).desired.order)
      ∧ t.door.permit = none ∧ t.door.occupancy = s.door.occupancy
      ∧ (∀ z ∈ zoneNumbers, let g := s.guardRecord z
          let exit : Option Timer := g.exitTimer.map fun _ => ⟨s.clock, s.mgmt.wing.exitDelay * 25000⟩
          let entry : Option Timer := g.entryTimer.map fun _ => ⟨s.clock, s.mgmt.wing.entryDelay * 25000⟩
          ((g.exitTimer = none ∨ s.mgmt.wing.exitDelay ≠ 0) → (g.entryTimer = none ∨ s.mgmt.wing.entryDelay ≠ 0) →
            t.guardRecord z = { g with exitTimer := exit, entryTimer := entry })
          ∧ (g.exitTimer ≠ none → s.mgmt.wing.exitDelay = 0 → g.state = .exiting →
            t.guardRecord z =
              if t.fireState z = .normal ∧ ¬(s.counted z = true ∧ 0 < (s.occupancy z).count)
                  ∧ ∀ d ∈ doorNumbers, (s.doorEntry d).enabled = true →
                    (s.doorEntry d).sideA = z ∨ (s.doorEntry d).sideB = z → (s.doorRecord d).contact = some .closed
                      ∧ (s.doorRecord d).state ≠ some .ajar ∧ (s.doorRecord d).state ≠ some .propped
                      ∧ (s.doorRecord d).state ≠ some .forced then
                ⟨.armed, none, entry, none, none, 0⟩
              else { g with state := .disarmed, exitTimer := none, entryTimer := entry })
          ∧ (g.exitTimer = none → g.entryTimer ≠ none → s.mgmt.wing.entryDelay = 0 → g.state = .entering →
            t.guardRecord z = ⟨.intrusion, none, none, g.entering, some (.entryDelay, g.entering.getD 0), 0⟩))
      ∧ t.guard.motion = s.guard.motion
      ∧ t.call.calls = [] ∧ t.call.attention = 0 ∧ t.call.nextNumber = s.call.nextNumber
      ∧ (∀ n < 48, t.signRecord n = { s.signRecord n with commanded := none, owed := false })
      ∧ t.sign.pass = some 0 ∧ t.sign.repeatMark = false
      ∧ t.order.halt = false
      ∧ t.order.confirmTimer = (if t.order.pool = [] then none else some ⟨s.clock, 6250⟩)
      ∧ t.order.tagCounter =
        (if t.order.pool = [] then s.order.tagCounter
        else if s.order.tagCounter < 255 then s.order.tagCounter + 1 else 1)
      ∧ (s.callLaw →
        (∀ c ∈ s.call.calls, ∃ r ∈ t.order.pool, r.target = c.point ∧ r.code = .lamp .off ∧ r.cls = 1)
        ∧ (∀ r ∈ t.order.pool, (∃ c ∈ s.call.calls, r.target = c.point ∧ r.code = .lamp .off)
            ∨ ∃ d ∈ doorNumbers, (s.doorEntry d).enabled = true ∧ r.target = (s.doorEntry d).module
              ∧ r.code = (t.doorRecord d).desired.order)
        ∧ t.port.counters = s.port.counters)
      ∧ t.port.pause = false ∧ t.port.link = s.port.link ∧ t.port.upQueue = s.port.upQueue
      ∧ t.port.downQueue = s.port.downQueue ∧ t.port.markU = s.port.markU ∧ t.port.markD = s.port.markD
      ∧ t.port.beatTimer = s.port.beatTimer.map (fun b => ⟨s.clock, b.len⟩)
      ∧ (0 < s.mgmt.wing.exitDelay → 0 < s.mgmt.wing.entryDelay →
        (∀ d ∈ doorNumbers, (s.doorEntry d).enabled = true → (s.doorRecord d).state = some .openAuth →
          0 < (s.doorEntry d).heldA) → t.port.notices = [])

/-! ### Guarding -/

/-- ARM of a zone, by its guard state and, when it is DISARMED, by the three arming checks in order, of which the third
fails by an enabled door with a side in the zone whose last contact is not CLOSED, or that is AJAR, PROPPED or FORCED;
with every check passed the zone is ARMED at once with no exit delay and EXITING with its timer started otherwise. DISARM
of an EXITING, ARMED or ENTERING zone and ACK-INTRUSION of a zone in INTRUSION set it DISARMED with its guard record
cleared and send ZONE-DISARMED; DISARM of a zone in INTRUSION is refused STILL_ACTIVE. -/
def Obligations.ZonesAreArmedAndDisarmed : Prop :=
  ∀ (s : State) (h : Header) (z : Byte), s.takes h → s.running = true →
    let holds := fun d : Nat => (s.doorEntry d).enabled
      && ((s.doorEntry d).sideA == z.toNat || (s.doorEntry d).sideB == z.toNat)
      && ((s.doorRecord d).contact != some .closed || (s.doorRecord d).state == some .ajar
        || (s.doorRecord d).state == some .propped || (s.doorRecord d).state == some .forced)
    exec (.arm h z) s =
      .next (State.beginPass
        (if h.srcStation ≠ 0#5 then (s.taken h).answer h 0x08#8 .denied []
        else if z.toNat = 0 ∨ 24 < z.toNat then (s.taken h).answer h 0x08#8 .badIndex []
        else
          let r := s.guardRecord z.toNat
          let delay := s.mgmt.wing.exitDelay
          match r.state with
          | .exiting => (s.taken h).answer h 0x08#8 .done []
          | .armed => (s.taken h).answer h 0x08#8 .done []
          | .entering => (s.taken h).answer h 0x08#8 .stillActive []
          | .intrusion => (s.taken h).answer h 0x08#8 .stillActive []
          | .disarmed =>
            if s.fireState z.toNat ≠ .normal then (s.taken h).answer h 0x08#8 .fireHold []
            else if s.counted z.toNat = true ∧ 0 < (s.occupancy z.toNat).count then
              (s.taken h).answer h 0x08#8 .occupied []
            else
              match doorNumbers.find? holds with
              | some d => (s.taken h).answer h 0x08#8 .doorOpen [BitVec.ofNat 8 d]
              | none =>
                if delay = 0 then
                  (((s.taken h).putGuard z.toNat ⟨.armed, none, r.entryTimer, none, none, 0⟩).notify
                    (.zoneArmed z.toNat (s.occupancyMark z.toNat))).answer h 0x08#8 .done []
                else
                  ((s.taken h).putGuard z.toNat
                    { r with state := .exiting, exitTimer := some ⟨s.clock, delay * 25000⟩ }).answer h 0x08#8 .done []))
    ∧ exec (.disarm h z) s =
      .next (State.beginPass
        (if h.srcStation ≠ 0#5 then (s.taken h).answer h 0x09#8 .denied []
        else if z.toNat = 0 ∨ 24 < z.toNat then (s.taken h).answer h 0x09#8 .badIndex []
        else
          match (s.guardRecord z.toNat).state with
          | .disarmed => (s.taken h).answer h 0x09#8 .done []
          | .intrusion => (s.taken h).answer h 0x09#8 .stillActive []
          | left =>
            (((s.taken h).putGuard z.toNat ⟨.disarmed, none, none, none, none, 0⟩).notify
              (.zoneDisarmed z.toNat left .disarm)).answer h 0x09#8 .done []))
    ∧ exec (.ackIntrusion h z) s =
      .next (State.beginPass
        (if h.srcStation ≠ 0#5 then (s.taken h).answer h 0x0A#8 .denied []
        else if z.toNat = 0 ∨ 24 < z.toNat ∨ (s.guardRecord z.toNat).state ≠ .intrusion then
          (s.taken h).answer h 0x0A#8 .badIndex []
        else
          (((s.taken h).putGuard z.toNat ⟨.disarmed, none, none, none, none, 0⟩).notify
            (.zoneDisarmed z.toNat .intrusion .ackIntrusion)).answer h 0x0A#8 .done []))

/-! ### Doors and occupancy -/

/-- ACK-DOOR of a FORCED door clears its latch and gives it its settled state; any other door is refused BAD_INDEX.
RESET-OCCUPANCY of a counted zone sets its occupancy and clamp counters to 0; any other zone is refused BAD_INDEX. -/
def Obligations.DoorsAndOccupancyAreReset : Prop :=
  (∀ (s : State) (h : Header) (d : Byte), s.takes h → s.running = true →
    exec (.ackDoor h d) s =
      .next (State.beginPass
        (if h.srcStation ≠ 0#5 then (s.taken h).answer h 0x0B#8 .denied []
        else if 31 < d.toNat ∨ (s.doorEntry d.toNat).enabled = false ∨ (s.doorRecord d.toNat).state ≠ some .forced then
          (s.taken h).answer h 0x0B#8 .badIndex []
        else
          let r := s.doorRecord d.toNat
          let settled : DoorState :=
            match r.commanded.getD r.desired with
            | .unlock => if r.desired = .unlock ∧ r.cause = .fire then .released else .free
            | .lock => if r.contact = some .open then .ajar else .secured
            | .hold => .held
            | .release => .shut
          let t := (s.taken h).putDoor d.toNat
            { r with state := some settled, latch := false, heldTimer := none, heldReached := false }
          (if t.passable d.toNat = s.passable d.toNat then t else t.setStale).answer h 0x0B#8 .done [])))
    ∧ ∀ (s : State) (h : Header) (z : Byte), s.takes h → s.running = true →
    exec (.resetOccupancy h z) s =
      .next (State.beginPass
        (if h.srcStation ≠ 0#5 then (s.taken h).answer h 0x0E#8 .denied []
        else if z.toNat = 0 ∨ 24 < z.toNat ∨ s.counted z.toNat = false then (s.taken h).answer h 0x0E#8 .badIndex []
        else ((s.taken h).putOccupancy z.toNat ⟨0, 0, 0⟩).answer h 0x0E#8 .done []))

/-- PERMIT sets the permit to an enabled STRONGROOM door; a door above 31 is refused BAD_INDEX and any other
BAD_VALUE, and the permit is then none. OPEN-DOOR by its six steps: BAD_INDEX; NO_PERMIT; the permit consumed;
BUSY_ENTRY; QUEUE_FULL when no record may be taken, which is counted; or a class 1 PULSE with NOTIFY in the pool and
the pulse window PENDING. -/
def Obligations.PermitsAreGivenAndConsumed : Prop :=
  ∀ (s : State) (h : Header) (d : Byte), s.takes h → s.running = true →
    exec (.permit h d) s =
      .next (State.beginPass
        (if h.srcStation ≠ 0#5 then (s.taken h).answer h 0x0C#8 .denied []
        else if 31 < d.toNat then (s.taken h).answer h 0x0C#8 .badIndex []
        else if (s.doorEntry d.toNat).enabled = false ∨ (s.doorEntry d.toNat).kind ≠ .strongroom then
          (s.taken h).answer h 0x0C#8 .badValue []
        else { s.taken h with door.permit := some d.toNat }.answer h 0x0C#8 .done []))
    ∧ exec (.openDoor h d) s =
      .next (State.beginPass
        (if h.srcStation ≠ 0#5 then (s.taken h).answer h 0x0D#8 .denied []
        else if 31 < d.toNat then (s.takenBy h (.openDoor d)).answer h 0x0D#8 .badIndex []
        else if s.door.permit ≠ some d.toNat then (s.taken h).answer h 0x0D#8 .noPermit []
        else if (s.doorRecord d.toNat).state ≠ some .secured then (s.taken h).answer h 0x0D#8 .busyEntry []
        else
          match takeRequest ⟨(s.doorEntry d.toNat).module, .pulse s.mgmt.wing.pulseTime, 1, true⟩ s.order.pool with
          | none => ((s.taken h).count .ordersSkipped).answer h 0x0D#8 .queueFull []
          | some (pool, rose) =>
            let t := if rose then ((s.taken h).putPool pool).serve else ((s.taken h).putPool pool).lookForSend
            (t.putDoor d.toNat { t.doorRecord d.toNat with window := .pending, pulseTimer := none }).answer h 0x0D#8
              .done []))
    ∧ (s.taken h).door.permit = none

/-! ### Fire -/

/-- RESET-ZONE of a zone in ALERT or ALARM is refused STILL_ACTIVE while an ALARM detector of it compares ABOVE or a
call point of it stands activated; otherwise its detectors return to QUIET, it is NORMAL with its window stopped and
out of the fire zone list, route-stale is set, the Door Unit is told and FIRE-RESET is sent. Any other zone is left as
it is. -/
def Obligations.ResetZoneReturnsItToNormal : Prop :=
  ∀ (s : State) (h : Header) (z : Byte), s.takes h → s.running = true →
    exec (.resetZone h z) s =
      .next (State.beginPass
        (if h.srcStation ≠ 0#5 then (s.taken h).answer h 0x0F#8 .denied []
        else if z.toNat = 0 ∨ 24 < z.toNat then (s.taken h).answer h 0x0F#8 .badIndex []
        else if s.fireState z.toNat ≠ .alarm ∧ s.fireState z.toNat ≠ .alert then (s.taken h).answer h 0x0F#8 .done []
        else if
            (∃ d ∈ s.alarmDetectors z.toNat, (s.detector d).map (·.lastCompare) = some .above)
              ∨ ∃ d ∈ deviceNumbers, (s.deviceEntry d).kind = some .mcp ∧ (s.deviceEntry d).zone = z.toNat
                ∧ s.activatedFlag d = true then
          (s.taken h).answer h 0x0F#8 .stillActive []
        else
          let t := (s.taken h).returnDetectors z.toNat
          let u := t.putZone z.toNat { s.zoneRecord z.toNat with fire := .normal, window := none }
          let v := { u with zone.fireList := s.zone.fireList.filter (· != z.toNat) }.setStale
          (v.workOutAll.notify (.fireReset z.toNat (s.fireState z.toNat))).answer h 0x0F#8 .done []))

/-- START-TEST takes a NORMAL zone to TEST with its timer started and TEST-START sent; END-TEST returns a zone in TEST
to NORMAL with its timer stopped and TEST-END sent. Any other zone is refused. EVACUATE sets a clear evacuation flag with
route-stale and EVAC-ON; STAND-DOWN clears a set one with route-stale and EVAC-OFF, and is refused FIRE_HOLD while the
fire zone list is not empty. On a flag that stands so already neither changes anything. -/
def Obligations.TestsAndEvacuationAreCommanded : Prop :=
  (∀ (s : State) (h : Header) (z : Byte), s.takes h → s.running = true →
    exec (.startTest h z) s =
      .next (State.beginPass
        (if h.srcStation ≠ 0#5 then (s.taken h).answer h 0x10#8 .denied []
        else if z.toNat = 0 ∨ 24 < z.toNat then (s.taken h).answer h 0x10#8 .badIndex []
        else if s.fireState z.toNat ≠ .normal then (s.taken h).answer h 0x10#8 .busyEntry []
        else
          (((s.taken h).putZone z.toNat
            { s.zoneRecord z.toNat with
              fire := .test
              walk := some ⟨s.clock, 60 * s.mgmt.wing.walkLimit * 25000⟩ }).notify (.testStart z.toNat)).answer h 0x10#8
            .done []))
    ∧ exec (.endTest h z) s =
      .next (State.beginPass
        (if h.srcStation ≠ 0#5 then (s.taken h).answer h 0x11#8 .denied []
        else if z.toNat = 0 ∨ 24 < z.toNat ∨ s.fireState z.toNat ≠ .test then (s.taken h).answer h 0x11#8 .badIndex []
        else
          (((s.taken h).putZone z.toNat { s.zoneRecord z.toNat with fire := .normal, walk := none }).notify
            (.testEnd z.toNat .endTest)).answer h 0x11#8 .done [])))
    ∧ ∀ (s : State) (h : Header), s.takes h → s.running = true →
    exec (.evacuate h) s =
      .next (State.beginPass
        (if h.srcStation ≠ 0#5 then (s.taken h).answer h 0x12#8 .denied []
        else if s.zone.evacuation = true then (s.taken h).answer h 0x12#8 .done []
        else
          (({ s.taken h with zone.evacuation := true }.setStale).notify (.evacOn 0)).answer h 0x12#8 .done []))
    ∧ exec (.standDown h) s =
      .next (State.beginPass
        (if h.srcStation ≠ 0#5 then (s.taken h).answer h 0x13#8 .denied []
        else if s.zone.fireList ≠ [] then (s.taken h).answer h 0x13#8 .fireHold []
        else if s.zone.evacuation = false then (s.taken h).answer h 0x13#8 .done []
        else
          (({ s.taken h with zone.evacuation := false }.setStale).notify .evacOff).answer h 0x13#8 .done []))

/-! ### Calls -/

/-- TAKE-CALL of a WAITING or OFFERED call makes it TAKEN with its timer stopped and its lamp ANSWERED; CLEAR-CALL
removes a live call with its lamp OFF. A number no live call holds is refused BAD_INDEX. SET-ATTENTION sets the level
and withdraws an OFFERED call at or below it; a level above 7 is refused BAD_VALUE. The offering check follows each.
-/
def Obligations.CallsAreTakenClearedAndHeldBack : Prop :=
  (∀ (s : State) (h : Header) (n : Byte), s.takes h → s.running = true →
    exec (.takeCall h n) s =
      .next (State.beginPass
        (if h.srcStation ≠ 0#5 then (s.taken h).answer h 0x14#8 .denied []
        else
          match s.call.calls.find? (·.number == n.toNat) with
          | none => (s.taken h).answer h 0x14#8 .badIndex []
          | some c =>
            if c.state = .taken then (s.taken h).answer h 0x14#8 .done []
            else
              let calls := s.call.calls.map fun (x : Call) =>
                if x.number = n.toNat then { x with state := .taken, timer := none } else x
              ((((s.taken h).putCalls calls).requestLamp c.point .answered).offeringCheck).answer h 0x14#8 .done []))
    ∧ exec (.clearCall h n) s =
      .next (State.beginPass
        (if h.srcStation ≠ 0#5 then (s.taken h).answer h 0x15#8 .denied []
        else
          match s.call.calls.find? (·.number == n.toNat) with
          | none => (s.taken h).answer h 0x15#8 .badIndex []
          | some c =>
            ((((s.taken h).putCalls (s.call.calls.filter (·.number != n.toNat))).requestLamp c.point
              .off).offeringCheck).answer h 0x15#8 .done [])))
    ∧ ∀ (s : State) (h : Header) (level : Byte), s.takes h → s.running = true →
    exec (.setAttention h level) s =
      .next (State.beginPass
        (if h.srcStation ≠ 0#5 then (s.taken h).answer h 0x16#8 .denied []
        else if 7 < level.toNat then (s.taken h).answer h 0x16#8 .badValue []
        else
          let t := { s.taken h with call.attention := level.toNat }
          let u :=
            match s.call.calls.find? (·.state == .offered) with
            | none => t
            | some c =>
              if c.priority ≤ level.toNat then
                (t.putCalls (s.call.calls.map fun (x : Call) =>
                  if x.number = c.number then { x with state := .waiting } else x)).notify
                  (.callWithdrawn c.number .attention)
              else t
          (u.offeringCheck).answer h 0x16#8 .done []))

/-! ### Orders, the link and the ports -/

/-- A relayed ORDER for this station, by the first line of its table that holds: a refusal is answered at once, and a
taken order becomes a RAW record at the tail of class 2 and a send is looked for. CLEAR-HALT clears a set class 2 halt
and looks for a send; with the halt clear it changes nothing. -/
def Obligations.RelayedOrdersAreJudgedInOrder : Prop :=
  (∀ (s : State) (h : Header) (payload : List Byte), s.takes h → payload.length ≤ 48 →
    let d := h.destDevice.toNat
    let t := s.reserve h.port (.forOrder h.srcStation h.srcDevice h.tag)
    let answered := fun (u : State) (r : Result) =>
      u.fill h.port (.forOrder h.srcStation h.srcDevice h.tag)
        ⟨h.srcStation, h.srcDevice, s.stationNumber, 0#7, .answer, 15#4, h.tag, [0x00#8, BitVec.ofNat 8 r.code]⟩
    exec (.relayedOrder h payload) s =
      .next (State.beginPass
        (if s.running = false then answered t .notConfigured
        else if d = 0 ∨ d = 127 ∨ (s.deviceEntry d).enabled = false then answered t .badIndex
        else
          match payload with
          | [] => answered t .badValue
          | options :: raw =>
            if raw = [] ∨ 40 < raw.length then answered t .badValue
            else if s.strongroomModule d = true then answered t .denied
            else if s.zone.evacuation = true
                ∧ ((s.deviceEntry d).kind = some .door ∨ (s.deviceEntry d).kind = some .sign) then
              answered t .fireHold
            else if h.srcStation ≠ 0#5 ∧ permitted s.mgmt.wing.permission d = false then
              answered (t.count .ordersDenied) .denied
            else if roomFor s.order.pool 2 = false then answered t .queueFull
            else
              (t.putPool (insertTail
                ⟨d, .raw raw, 2, none, 0, options.getLsbD 7, options.getLsbD 6,
                  .relayed h.port h.srcStation h.srcDevice h.tag, false⟩ s.order.pool)).lookForSend)))
    ∧ ∀ (s : State) (h : Header), s.takes h → s.running = true →
    exec (.clearHalt h) s =
      .next (State.beginPass
        (if h.srcStation ≠ 0#5 then (s.taken h).answer h 0x17#8 .denied []
        else if s.order.halt = false then (s.taken h).answer h 0x17#8 .done []
        else ({ s.taken h with order.halt := false }.lookForSend).answer h 0x17#8 .done []))

/-- A BEAT taken from U restarts the beat timer, or stops it when the timeout in force is 0, and brings a STAND-ALONE
link ONLINE with the offering check and LINK-ONLINE; from D it is discarded. A PAUSE taken from U sets the pause and a
RESUME clears it; from D they are discarded. Each of them for station 31 is repeated besides. The beat timer expires:
an ONLINE link goes STAND-ALONE with the pause and the permit cleared, an OFFERED call withdrawn and LINK-STANDALONE
carrying the timeout that expired. An expiry of a timer that does not run changes nothing (log 3). -/
def Obligations.TheLinkIsSupervised : Prop :=
  (∀ (s : State) (h : Header) (payload : List Byte), payload.length ≤ 48 → s.hears h →
    let timer := if s.mgmt.wing.beatTimeout = 0 then none else some ⟨s.clock, s.mgmt.wing.beatTimeout * 25000⟩
    let stood :=
      match s.port.aloneSince with
      | none => 0
      | some t => min 65535 (inUnits (s.clock - t) 25000)
    exec (.beat h payload) s =
      .next (((if h.port = .d then s
        else if s.port.link = .online then { s with port.beatTimer := timer }
        else
          (({ s with port.beatTimer := timer, port.link := .online }).offeringCheck).notify
            (.linkOnline stood)).repeated h.port (headerFrame h .beat payload)).beginPass))
    ∧ (∀ (s : State) (h : Header) (payload : List Byte), payload.length ≤ 48 → s.hears h →
    exec (.pause h payload) s =
      .next (((if h.port = .u then { s with port.pause := true } else s).repeated h.port
        (headerFrame h .pause payload)).beginPass)
    ∧ exec (.resume h payload) s =
      .next (((if h.port = .u then { s with port.pause := false } else s).repeated h.port
        (headerFrame h .resume payload)).beginPass))
    ∧ ∀ s : State,
    exec .beatTimerExpiry s =
      .next (State.beginPass
        (match s.port.beatTimer with
        | none => s
        | some b =>
          if s.port.link = .standAlone then { s with port.beatTimer := none }
          else
            let t := { s with
              port.beatTimer := none
              port.pause := false
              port.link := .standAlone
              port.aloneSince := some s.clock
              door.permit := none }
            let u :=
              match s.call.calls.find? (·.state == .offered) with
              | none => t
              | some c =>
                (t.putCalls (s.call.calls.map fun (x : Call) =>
                  if x.number = c.number then { x with state := .waiting } else x)).notify
                  (.callWithdrawn c.number .standAlone)
            u.notify (.linkStandalone (b.len / 25000))))

/-- A port that comes free is granted to a side that waits, and to the side its mark does not name when both do; the
own side sends its oldest ready answer, or else the oldest of its eligible notices of the highest priority, whose mark
for the port is cleared; with nothing waiting nothing changes. A notice is eligible for a port while it is owed there;
for U a pause holds back all but priority 0, and for D nothing. -/
def Obligations.PortsAlternateBetweenTheirSides : Prop :=
  ∀ (s : State) (p : BackbonePort),
    let eligible := fun e : NoticeEntry =>
      match p with
      | .u => e.owedU = true ∧ (s.port.pause = false ∨ e.notice.priority = 0)
      | .d => e.owedD = true
    let ownIdle := (s.answers p).ready = [] ∧ ∀ e ∈ s.port.notices, ¬eligible e
    (∀ f rest, s.passQueue p = f :: rest → ownIdle ∨ s.arbiterMark p = .own →
      exec (.portOutputGrant p) s = .next ((s.putPassQueue p rest).sendOn p .pass f).beginPass)
    ∧ (∀ f rest, (s.answers p).ready = f :: rest → s.passQueue p = [] ∨ s.arbiterMark p = .pass →
      exec (.portOutputGrant p) s =
        .next ((s.putAnswers p { s.answers p with ready := rest }).sendOn p .own f).beginPass)
    ∧ (∀ before e after, (s.answers p).ready = [] → s.passQueue p = [] ∨ s.arbiterMark p = .pass →
      s.port.notices = before ++ e :: after → eligible e →
      (∀ x ∈ before, eligible x → e.notice.priority < x.notice.priority) →
      (∀ x ∈ after, eligible x → e.notice.priority ≤ x.notice.priority) →
      let sent : NoticeEntry :=
        match p with
        | .u => { e with owedU := false }
        | .d => { e with owedD := false }
      exec (.portOutputGrant p) s =
        .next (({ s with
          port.notices := before ++ (if sent.owedU || sent.owedD then [sent] else []) ++ after }).sendOn
          p .own (e.notice.frame s.stationNumber)).beginPass)
    ∧ (ownIdle → s.passQueue p = [] → exec (.portOutputGrant p) s = .next s.beginPass)

/-- A notice joins the notice queue as its youngest entry while the queue holds fewer than 64. A full queue loses its
youngest entry of the lowest priority present when that is below the newcomer's, and the newcomer otherwise, and
NOTICES_DROPPED is counted. Nothing else changes. -/
def Obligations.NoticeQueueKeepsTheMoreUrgent : Prop :=
  ∀ (s : State) (n : Notice),
    (s.port.notices.length < 64 → s.notify n = { s with port.notices := s.port.notices ++ [⟨n, true, n.broadcast⟩] })
    ∧ (∀ (before : List NoticeEntry) (e : NoticeEntry) (after : List NoticeEntry),
      s.port.notices = before ++ e :: after → 64 ≤ s.port.notices.length →
      n.priority < e.notice.priority → (∀ x ∈ before, x.notice.priority ≤ e.notice.priority) →
      (∀ x ∈ after, x.notice.priority < e.notice.priority) →
      s.notify n =
        ({ s with port.notices := before ++ after ++ [(⟨n, true, n.broadcast⟩ : NoticeEntry)] } : State).count
          .noticesDropped)
    ∧ (64 ≤ s.port.notices.length → (∀ e ∈ s.port.notices, e.notice.priority ≤ n.priority) →
      s.notify n = s.count .noticesDropped)

/-! ### Timers and engines -/

/-- A period boundary with no sweep running: the presence sets trade places, the sweep begins at device 1, the next
cycle takes up the buffered period and missing limit, and doors and signs in FAULT whose device is not MISSING are
marked owed; if there is one, a service of owed objects follows all the marks (log 38). While the period timer is idle
nothing happens (log 3). The sweep at one device: an enabled device's retired mark enters its history at the front and
is cleared, it becomes MISSING or is restored by the count of periods not seen, and a SMOKE detector takes its drift
step; a disabled device's mark is cleared. The sweep then moves on, and ends after device 126. -/
def Obligations.PeriodsAreSweptDeviceByDevice : Prop :=
  (∀ s : State, s.sup.sweep = none →
    let limits : Nat × Nat := s.sup.buffered.getD (s.sup.period, s.sup.missingLimit)
    let begun := ({ s with
      sup.selector := s.sup.selector.other
      sup.sweep := some 1
      sup.period := limits.1
      sup.missingLimit := limits.2
      sup.buffered := none
      sup.periodTimer := some ⟨s.clock, limits.1 * 25000⟩ } : State)
    let doors := doorNumbers.foldl (fun (t : State) n =>
      if (s.doorEntry n).enabled = true ∧ (s.doorRecord n).state = some .fault ∧ s.missing (s.doorEntry n).module = false then
        t.putDoor n { s.doorRecord n with owed := true }
      else t) begun
    let marked := signNumbers.foldl (fun (t : State) n =>
      if (s.signEntry n).enabled = true ∧ (s.signRecord n).fault = true ∧ s.missing (s.signEntry n).device = false then
        t.putSign n { s.signRecord n with owed := true }
      else t) doors
    exec .periodBoundary s =
      .next (State.beginPass
        (if s.sup.periodTimer = none then s
        else if
            (∃ d ∈ doorNumbers, (s.doorEntry d).enabled = true ∧ (s.doorRecord d).state = some .fault
              ∧ s.missing (s.doorEntry d).module = false)
              ∨ ∃ n ∈ signNumbers, (s.signEntry n).enabled = true ∧ (s.signRecord n).fault = true
                ∧ s.missing (s.signEntry n).device = false then
          marked.serve
        else marked)))
    ∧ ∀ (s : State) (d : Nat), s.sup.sweep = some d →
    let retired := s.sup.selector.other
    let seen := s.mark retired d
    let history := (seen :: (s.device d).history).take 6
    let missed := history.count false
    let t := (s.putMark retired d false).putDevice d ⟨history, s.causes d⟩
    d < 127 →
    let visited :=
      if (s.deviceEntry d).enabled = false then s.putMark retired d false
      else if s.missing d = false ∧ s.sup.missingLimit ≤ missed then (t.becomeMissing d).drift d
      else if s.missing d = true ∧ seen = true ∧ missed < s.sup.missingLimit then (t.restoreDevice d).drift d
      else t.drift d
    exec .sweepVisit s =
      .next (State.beginPass { visited with sup.sweep := if d < 126 then some (d + 1) else none })

/-- An enabled device becomes MISSING at the sweep: MISSING enters its cause set with TROUBLE, and in RUNNING its owner is
told. A detector goes to TROUBLE with verify count 0 and last compare UNORDERED before the notice, or stays in ALARM as it
is (log 30); the enabled door of a module enters FAULT with cause MISSING and DOOR-FAULT; the enabled sign of a device is
marked owed, with a service; no other kind does anything. A restored device loses MISSING with TROUBLE, and in RUNNING a
service is made, after route-stale is set for the device of an enabled sign. The drift step of a SMOKE detector in
RUNNING: a QUIET detector with its baseline set takes up changed limits, its baseline brought within them; its baseline
then moves by a sixty-fourth of its difference from the last NORMAL reading, with drift on and that within the window,
and is held within the limits. COMP_LIMIT enters with a baseline brought or held to a limit and leaves with a movement
strictly between them, and TROUBLE is sent when the step changes it in the end (log 40). -/
def Obligations.MissingDevicesAndDriftAreJudged : Prop :=
  (∀ (s : State) (d : Nat), 1 ≤ d → d ≤ 126 → (s.deviceEntry d).enabled = true →
    let e := s.deviceEntry d
    let marked := fun b : Bool => s.putDevice d { s.device d with causes := { s.causes d with missing := b } }
    let notice := fun b : Bool => Notice.trouble d e.kind e.zone { s.causes d with missing := b } (s.detectorState d)
    let stands := fun det : Detector => det.state = .alarm ∨ det.state = .disabled
    (s.becomeMissing d =
      if s.running = false then (marked true).notify (notice true)
      else if e.kind = some .smoke ∨ e.kind = some .heat then
        ((marked true).putDetector d ((s.detector d).map fun det =>
          if stands det then det else { det with state := .trouble, verify := 0, lastCompare := .unordered })).notify
          (.trouble d e.kind e.zone { s.causes d with missing := true } ((s.detector d).map fun det =>
            if stands det then det.state else .trouble))
      else if e.kind = some .door then
        match doorNumbers.find? fun n => (s.doorEntry n).enabled && (s.doorEntry n).module == d with
        | none => (marked true).notify (notice true)
        | some n =>
          let x := s.doorRecord n
          let t := (marked true).notify (notice true)
          if x.state = some .fault then t.putDoor n { x with fault := some .missing }
          else
            let u := (t.putDoor n { x with
              state := some .fault
              heldTimer := none
              heldReached := false
              window := .closed
              pulseTimer := none
              fault := some .missing }).notify (.doorFault n d .missing)
            if u.passable n = s.passable n then u else u.setStale
      else if e.kind = some .sign then
        match signNumbers.find? fun n => (s.signEntry n).enabled && (s.signEntry n).device == d with
        | none => (marked true).notify (notice true)
        | some n => (((marked true).notify (notice true)).putSign n { s.signRecord n with owed := true }).serve
      else (marked true).notify (notice true))
    ∧ s.restoreDevice d =
      if s.running = false then (marked false).notify (notice false)
      else if ∃ n ∈ signNumbers, (s.signEntry n).enabled = true ∧ (s.signEntry n).device = d then
        (((marked false).notify (notice false)).setStale).serve
      else ((marked false).notify (notice false)).serve)
    ∧ ∀ (s : State) (d : Nat),
      (s.running = false ∨ (s.deviceEntry d).enabled = false ∨ (s.deviceEntry d).kind ≠ some .smoke
        ∨ s.detector d = none → s.drift d = s)
      ∧ ∀ det, s.running = true → (s.deviceEntry d).enabled = true → (s.deviceEntry d).kind = some .smoke →
        s.detector d = some det →
        let c := s.classEntry (s.deviceEntry d).cls
        let adjusts := det.state = .quiet ∧ det.baseline ≠ 0 ∧ (c.bmin ≠ det.limitLow ∨ c.bmax ≠ det.limitHigh)
        let low := if adjusts then c.bmin else det.limitLow
        let high := if adjusts then c.bmax else det.limitHigh
        let start : Nat :=
          if ¬adjusts then det.baseline
          else if det.baseline < 16 * c.bmin then 16 * c.bmin
          else if 16 * c.bmax < det.baseline then 16 * c.bmax
          else det.baseline
        let diff : Int := 16 * (det.lastNormal.getD 0 : Int) - (start : Int)
        let moves := det.state = .quiet ∧ c.drift = true ∧ start ≠ 0 ∧ det.lastNormal ≠ none
          ∧ diff ≤ 16 * (c.window : Int) ∧ -(16 * (c.window : Int)) ≤ diff
        let result : Int := (start : Int) + diff.tdiv 64
        let heldLow := moves ∧ result < 16 * (low : Int)
        let heldHigh := moves ∧ 16 * (high : Int) < result
        let baseline : Nat :=
          if heldLow then 16 * low else if heldHigh then 16 * high else if moves then result.toNat else start
        let limit : Bool :=
          if heldLow ∨ heldHigh then true
          else if moves ∧ 16 * (low : Int) < result ∧ result < 16 * (high : Int) then false
          else (s.causes d).compLimit || decide (start ≠ det.baseline)
        let t := s.putDetector d (some { det with limitLow := low, limitHigh := high, baseline := baseline })
        let causes := { s.causes d with compLimit := limit }
        s.drift d =
          if limit = (s.causes d).compLimit then t
          else
            (t.putDevice d { s.device d with causes := causes }).notify
              (.trouble d (some .smoke) (s.deviceEntry d).zone causes (some det.state))

/-- The double-knock window of a zone in ALERT expires: its ALARM detectors return to QUIET, it is NORMAL, route-stale
is set, the Door Unit is told and ALERT-UNCONFIRMED carries the number returned. The walk-test timer of a zone in TEST
expires: it is NORMAL with its timer stopped and TEST-END carries LIMIT. The three timers of a door: at the end of the
pulse time its window is CLOSED; at compare A, once and only when A is below B, DOOR-HELD is sent; at compare B the door
is PROPPED and DOOR-PROPPED is sent. An expiry of a timer that does not run changes nothing (log 3). -/
def Obligations.ZoneAndDoorTimersRunOut : Prop :=
  (∀ (s : State) (z : Nat),
    exec (.doubleKnockWindowExpiry z) s =
      .next (State.beginPass
        (if (s.zoneRecord z).window = none ∨ s.fireState z ≠ .alert then s
        else
          let t := (s.returnDetectors z).putZone z { s.zoneRecord z with fire := .normal, window := none }
          (t.workOutAll.setStale).notify (.alertUnconfirmed z (s.alarmDetectors z).length)))
    ∧ exec (.walkTestTimerExpiry z) s =
      .next (State.beginPass
        (if (s.zoneRecord z).walk = none ∨ s.fireState z ≠ .test then s
        else (s.putZone z { s.zoneRecord z with fire := .normal, walk := none }).notify (.testEnd z .limit))))
    ∧ ∀ (s : State) (d : Nat),
    let r := s.doorRecord d
    let e := s.doorEntry d
    exec (.pulseTimerExpiry d) s =
      .next (State.beginPass
        (if r.pulseTimer = none then s else s.putDoor d { r with window := .closed, pulseTimer := none }))
    ∧ exec (.heldCompareA d) s =
      .next (State.beginPass
        (if r.heldTimer = none ∨ r.heldReached = true ∨ e.heldB ≤ e.heldA then s
        else (s.putDoor d { r with heldReached := true }).notify (.doorHeld d e.sideA e.sideB e.heldA)))
    ∧ exec (.heldCompareB d) s =
      .next (State.beginPass
        (if r.heldTimer = none then s
        else
          let t := s.putDoor d { r with
            state := some .propped
            window := if r.state = some .secured then .closed else r.window
            pulseTimer := if r.state = some .secured then none else r.pulseTimer
            heldTimer := none
            heldReached := false }
          (if r.state = some .propped then s
          else if t.passable d = s.passable d then t
          else t.setStale).notify (.doorPropped d e.sideA e.sideB)))

/-- The exit delay of an EXITING zone expires and the arming checks are made again: ARMED with ZONE-ARMED, or DISARMED
with ARM-FAILED and its reason. The entry delay of an ENTERING zone expires: INTRUSION by the entering door. An expiry
of a timer that does not run changes nothing (log 3). -/
def Obligations.GuardDelaysRunOut : Prop :=
  ∀ (s : State) (z : Nat),
    let r := s.guardRecord z
    let holds := fun d : Nat => (s.doorEntry d).enabled && ((s.doorEntry d).sideA == z || (s.doorEntry d).sideB == z)
      && ((s.doorRecord d).contact != some .closed || (s.doorRecord d).state == some .ajar
        || (s.doorRecord d).state == some .propped || (s.doorRecord d).state == some .forced)
    exec (.exitDelayExpiry z) s =
      .next (State.beginPass
        (if r.exitTimer = none ∨ r.state ≠ .exiting then s
        else
          let failed := s.putGuard z { r with state := .disarmed, exitTimer := none }
          if s.fireState z ≠ .normal then failed.notify (.armFailed z .fireHold none)
          else if s.counted z = true ∧ 0 < (s.occupancy z).count then failed.notify (.armFailed z .occupied none)
          else
            match doorNumbers.find? holds with
            | some d => failed.notify (.armFailed z .doorOpen (some d))
            | none =>
              (s.putGuard z ⟨.armed, none, r.entryTimer, none, none, 0⟩).notify
                (.zoneArmed z (s.occupancyMark z))))
    ∧ exec (.entryDelayExpiry z) s =
      .next (State.beginPass
        (if r.entryTimer = none ∨ r.state ≠ .entering then s
        else
          (s.putGuard z
            ⟨.intrusion, none, none, r.entering, some (.entryDelay, r.entering.getD 0), 0⟩).notify
            (.intrusion z .entryDelay (r.entering.getD 0) .entering s.mgmt.mode (s.occupancyMark z))))

/-- The escalation timer of the only live call with a number: at its step the priority rises by 1 if it is below 7, and
offers are judged again; at the end of its cycle the call is UNANSWERED with one cycle more, CALL-UNANSWERED is sent and
the next cycle starts with the values in force. A step or end of a timer that does not run changes nothing (log 3). -/
def Obligations.CallsEscalate : Prop :=
  ∀ (s : State) (before after : List Call) (c : Call), s.call.calls = before ++ c :: after →
    (∀ x ∈ before ++ after, x.number ≠ c.number) →
    exec (.escalationStep c.number) s =
      .next (State.beginPass
        (match c.timer with
        | none => s
        | some t =>
          if t.stepped = true ∨ t.cycleB ≤ t.stepA then s
          else
            (s.putCalls (before ++
              { c with
                priority := if c.priority < 7 then c.priority + 1 else c.priority
                timer := some { t with stepped := true } } :: after)).judgeOffers s.call.calls))
    ∧ exec (.escalationCycleEnd c.number) s =
      .next (State.beginPass
        (if c.timer = none then s
        else
          let c' := { c with unanswered := true, cycles := if c.cycles < 255 then c.cycles + 1 else c.cycles }
          let a := s.mgmt.wing.stepA
          let b := s.mgmt.wing.cycleB
          let stepNow := a = 0 ∧ 0 < b
          let next := { c' with
            priority := if stepNow ∧ c.priority < 7 then c.priority + 1 else c.priority
            timer := some ⟨s.clock, a, b, decide stepNow⟩ }
          ((s.notify (.callUnanswered c.number c.point c.zone c.kind c.priority c.state c.press c.trapped
            c'.cycles)).putCalls (before ++ next :: after)).judgeOffers s.call.calls))

/-- Requests, services and sends of the Order Unit. A request (none is RAW) brings the waiting record of its target and
family up to date: code and NOTIFY in place, at the tail of a higher class, which is a rise when that class is 0, or of
a lower class that has room without it; with none it makes a record at the tail of its class, or finds no room. A
service visits doors 0 to 31 and then signs 0 to 47: an owed object takes an order for its present need and its mark is
cleared, a disabled one has it cleared, and one MISSING or without room stays owed; a rise within a round brings another
round (log 12). A look for a send with nothing in flight sends the first record in chain order that no class 2 halt
holds, under the next tag, and starts the confirmation timer. A door's or sign's request is taken as its service while it
is owed, and leaves it owed with a service when there is no room; a lamp's is skipped and counted then. -/
def Obligations.OrdersAreRequestedServedAndSent : Prop :=
  (∀ (q : OrderRequest) (pool : List OrderRecord), (∀ p, q.code ≠ .raw p) →
    let family : OrderCode → Nat := fun c =>
      match c with
      | .lock => 0
      | .unlock => 0
      | .hold => 1
      | .release => 1
      | .pulse _ => 2
      | .display _ => 3
      | .lamp _ => 4
      | .raw _ => 5
    let waits := fun r : OrderRecord => r.inFlight = false ∧ r.target = q.target ∧ family r.code = family q.code
    let room := fun l : List OrderRecord => l.length < 32
      ∧ (q.cls ≠ 0 → (l.filter fun r => r.cls == 1 || r.cls == 2).length < 24)
      ∧ (q.cls = 2 → (l.filter fun r => r.cls == 2).length < 12)
    let atTail := fun (r : OrderRecord) (l : List OrderRecord) =>
      l.takeWhile (fun x => decide (x.cls ≤ r.cls)) ++ r :: l.dropWhile fun x => decide (x.cls ≤ r.cls)
    ((∀ r ∈ pool, ¬waits r) →
      takeRequest q pool =
        if room pool then
          some (atTail ⟨q.target, q.code, q.cls, none, 0, q.notify, false, .internal, false⟩ pool, false)
        else none)
    ∧ ∀ before r after, pool = before ++ r :: after → waits r → (∀ x ∈ before, ¬waits x) →
      takeRequest q pool =
        if q.cls < r.cls ∨ (r.cls < q.cls ∧ room (before ++ after)) then
          some (atTail { r with code := q.code, notify := q.notify || r.notify, cls := q.cls } (before ++ after),
            decide (q.cls < r.cls ∧ q.cls = 0))
        else some (before ++ { r with code := q.code, notify := q.notify || r.notify } :: after, false))
    ∧ (∀ s : State,
      let sendable := fun r : OrderRecord => r.cls ≠ 2 ∨ s.order.halt = false
      ((∃ r ∈ s.order.pool, r.inFlight = true) ∨ (∀ r ∈ s.order.pool, ¬sendable r) → s.lookForSend = s)
      ∧ ∀ before r after, s.order.pool = before ++ r :: after → (∀ x ∈ s.order.pool, x.inFlight = false) →
        (∀ x ∈ before, ¬sendable x) → sendable r →
        let tag := r.tag.getD s.order.tagCounter
        s.lookForSend =
          { s with
            order.pool := before ++ { r with tag := some tag, inFlight := true } :: after
            order.confirmTimer := some ⟨s.clock, 6250⟩
            order.tagCounter :=
              if r.tag ≠ none then s.order.tagCounter
              else if s.order.tagCounter < 255 then s.order.tagCounter + 1
              else 1 }.sendField
            ⟨s.stationNumber, BitVec.ofNat 7 r.target, s.stationNumber, 0#7, .order, 0#4, BitVec.ofNat 8 tag,
              r.code.payload⟩)
    ∧ ∀ s : State,
      let doorNeed := fun d : Nat =>
        let x := s.doorRecord d
        let code : OrderCode :=
          match x.desired with
          | .lock => .lock
          | .unlock => .unlock
          | .hold => .hold
          | .release => .release
        (⟨(s.doorEntry d).module, code, if x.cause = .fire then 0 else 1, decide (x.cause = .fire)⟩ : OrderRequest)
      let signNeed := fun n : Nat =>
        (⟨(s.signEntry n).device, .display ((s.signRecord n).desired.getD .dark), if s.zone.evacuation then 0 else 1,
          s.zone.evacuation⟩ : OrderRequest)
      let visitDoor := fun (x : State × Bool) (d : Nat) =>
        let free := fun (pool : List OrderRecord) =>
          (x.1.putPool pool).putDoor d { s.doorRecord d with owed := false }
        if (s.doorRecord d).owed = false then x
        else if (s.doorEntry d).enabled = false then (free x.1.order.pool, x.2)
        else if s.missing (s.doorEntry d).module = true then x
        else
          match takeRequest (doorNeed d) x.1.order.pool with
          | some (pool, rose) => (free pool, x.2 || rose)
          | none => x
      let visitSign := fun (x : State × Bool) (n : Nat) =>
        let free := fun (pool : List OrderRecord) =>
          (x.1.putPool pool).putSign n { s.signRecord n with owed := false }
        if (s.signRecord n).owed = false then x
        else if (s.signEntry n).enabled = false then (free x.1.order.pool, x.2)
        else if s.missing (s.signEntry n).device = true then x
        else
          match takeRequest (signNeed n) x.1.order.pool with
          | some (pool, rose) => (free pool, x.2 || rose)
          | none => x
      let round := signNumbers.foldl visitSign (doorNumbers.foldl visitDoor (s, false))
      let taken := fun (t : State) (x : List OrderRecord × Bool) =>
        if x.2 = true then (t.putPool x.1).serve else (t.putPool x.1).lookForSend
      s.service = (if round.2 = true then round.1.service else round.1)
        ∧ s.serve = s.service.lookForSend
        ∧ (∀ d ∈ doorNumbers, (s.doorEntry d).enabled = true →
          s.requestDoor d =
            if (s.doorRecord d).owed = true then
              if s.missing (s.doorEntry d).module = true then s
              else
                match takeRequest (doorNeed d) s.order.pool with
                | some x => taken (s.putDoor d { s.doorRecord d with owed := false }) x
                | none => s
            else
              match takeRequest (doorNeed d) s.order.pool with
              | some x => taken s x
              | none => (s.putDoor d { s.doorRecord d with owed := true }).serve)
        ∧ (∀ n ∈ signNumbers, (s.signEntry n).enabled = true → (s.signRecord n).owed = false →
          s.requestSign n =
            match takeRequest (signNeed n) s.order.pool with
            | some x => taken s x
            | none => (s.putSign n { s.signRecord n with owed := true }).serve)
        ∧ ∀ (point : Nat) (l : LampState),
          s.requestLamp point l =
            match takeRequest ⟨point, .lamp l, 1, false⟩ s.order.pool with
            | some x => taken s x
            | none => s.count .ordersSkipped

/-- The confirmation timer expires: below four attempts the record in flight is sent again with its tag and the timer
starts again; at the fourth it fails. It is freed and counted, ORDER-FAILED is sent, its target's owner is told, and
owed objects are served. The enabled door of the module enters FAULT with cause ORDER_FAILED: its timers stop, its
window closes, DOOR-FAULT is sent and a changed passability sets route-stale; a door in FAULT already takes the newer
cause alone. The enabled sign of the device enters FAULT with its commanded display UNKNOWN, and sends SIGN-OUT if it was
not there. LAMP_FAULT enters the cause set of an enabled help point, with TROUBLE when the set changes. A RAW order is
answered FAILED, and sets the class 2 halt when it carries HALT_ON_FAIL. With nothing in flight nothing happens
(log 3). -/
def Obligations.UnansweredOrdersAreResentThenFail : Prop :=
  ∀ s : State,
    (s.inFlight = none → exec .confirmationTimerExpiry s = .next s.beginPass)
    ∧ ∀ (before after : List OrderRecord) (r : OrderRecord), s.order.pool = before ++ r :: after → r.inFlight = true →
      (∀ x ∈ before, x.inFlight = false) →
      let d := r.target
      let failed : State :=
        ({ s with order.pool := before ++ after, order.confirmTimer := none }.count .ordersFailed).notify
          (.orderFailed d r.code r.cls r.origin (r.haltOnFail && !s.order.halt))
      let fault : State :=
        match doorNumbers.find? fun n => (s.doorEntry n).enabled && (s.doorEntry n).module == d with
        | none => failed
        | some n =>
          let x := s.doorRecord n
          if x.state = some .fault then failed.putDoor n { x with fault := some .orderFailed }
          else
            let t := (failed.putDoor n { x with
              state := some .fault
              heldTimer := none
              heldReached := false
              window := .closed
              pulseTimer := none
              fault := some .orderFailed }).notify (.doorFault n d .orderFailed)
            if t.passable n = s.passable n then t else t.setStale
      let told : State :=
        match r.code with
        | .lock => fault
        | .unlock => fault
        | .hold => fault
        | .release => fault
        | .pulse _ => fault
        | .display shown =>
          (match signNumbers.find? fun n => (s.signEntry n).enabled && (s.signEntry n).device == d with
          | none => failed
          | some n =>
            let x := s.signRecord n
            let t := failed.putSign n { x with fault := true, commanded := none }
            if x.fault = true then t else t.notify (.signOut n d shown))
        | .lamp _ =>
          if (s.deviceEntry d).enabled = true ∧ (s.deviceEntry d).kind = some .help ∧ (s.causes d).lampFault = false then
            let causes := { s.causes d with lampFault := true }
            (failed.putDevice d { s.device d with causes := causes }).notify
              (.trouble d (some .help) (s.deviceEntry d).zone causes (s.detectorState d))
          else failed
        | .raw _ =>
          let t : State :=
            match r.origin with
            | .internal => failed
            | .relayed p station device tag =>
              failed.fill p (.forOrder station device tag)
                ⟨station, device, s.stationNumber, 0#7, .answer, 15#4, tag, [0x00#8, 0x0D#8]⟩
          { t with order.halt := s.order.halt || r.haltOnFail }
      exec .confirmationTimerExpiry s =
        .next (State.beginPass
          (if r.attempts + 1 < 4 then
            { s with
              order.pool := before ++ { r with attempts := r.attempts + 1 } :: after
              order.confirmTimer := some ⟨s.clock, 6250⟩ }.sendField (orderFrame s.stationNumber r)
          else told.serve))

/-- The pass at one sign: one that is disabled or MISSING is passed over. Any other takes its desired display: while the
wing evacuates the flashing arrow of its first option in slot order with no blocking zone in ALERT or ALARM and every
required door passable, or CROSS, which sends NO-ROUTE when it is new; otherwise the steady arrow of its default option.
Unless the sign is in FAULT or owed, a SHOW is requested when the desired display differs from the one last asked for,
when there is none, or when a SHOW waits; a request that finds no record leaves the sign owed. The pass then moves on;
after sign 47 route-stale is cleared, or a new pass begins if the repeat mark is set. -/
def Obligations.SignPassVisitsOneSign : Prop :=
  ∀ (s : State) (n : Nat), s.sign.pass = some n →
    let e := s.signEntry n
    let r := s.signRecord n
    let passable := fun d : Nat => (s.doorEntry d).enabled &&
      match (s.doorEntry d).kind, (s.doorRecord d).state with
      | _, none => false
      | .fire, some _ => true
      | .egress, some st => st != .secured && st != .ajar
      | .secure, some st => st != .secured && st != .ajar && st != .fault
      | .strongroom, some _ => false
    let qualifies := fun o : SignOption =>
      o.zones.all (fun z => s.fireState z != .alert && s.fireState z != .alarm) && o.doors.all passable
    let new : Option Display :=
      if s.zone.evacuation = true then
        match (e.slots.filterMap id).find? qualifies with
        | some o => some (.flashing o.arrow)
        | none => some .cross
      else ((e.slots[e.default - 1]?).join).map fun o => .steady o.arrow
    let ordered := fun flying : Bool =>
      (s.order.pool.filter fun q => q.inFlight == flying && q.target == e.device).findSome? fun q =>
        match q.code with
        | .display x => some x
        | _ => none
    let prospective := (ordered false).or ((ordered true).or r.commanded)
    let cleared := s.putSign n { r with desired := new }
    let worked :=
      if new = some .cross ∧ r.desired ≠ some .cross then
        cleared.notify (.noRoute n e.device (s.deviceEntry e.device).zone)
      else cleared
    let visited :=
      if e.enabled = false ∨ s.missing e.device = true then s
      else if r.fault = true ∨ r.owed = true
          ∨ (new = prospective ∧ prospective ≠ none ∧ ordered false = none) then worked
      else
        match takeRequest ⟨e.device, .display (new.getD .dark), if s.zone.evacuation then 0 else 1, s.zone.evacuation⟩
          s.order.pool with
        | some (pool, true) => (worked.putPool pool).serve
        | some (pool, false) => (worked.putPool pool).lookForSend
        | none => (worked.oweSign n true).serve
    exec .signPassVisit s =
      .next (State.beginPass
        (if n < 47 then { visited with sign.pass := some (n + 1) }
        else if visited.sign.repeatMark = true then { visited with sign.pass := some 0, sign.repeatMark := false }
        else { visited with sign.pass := none, zone.routeStale := false }))

/-! ### Reports from the field -/

/-- A sound frame on the field port: one that is not a REPORT, or a REPORT too short or out of range for its device's
kind, is counted in BAD_FRAME of F; one from device 0 or 127 or a device not enabled in UNKNOWN_DEVICE; and a report
that is taken is handed on by the five steps of R5, the third and fourth in RUNNING alone: its mark is set; TAMPER
follows its tamper flag, where the kind has one, with TROUBLE when the set changes (for a detector in RUNNING with the
notice of its evaluation); the unit of its kind and the Order Unit take it; and it is copied upward when the watch mode
is ALL, or TROUBLE with the device then not in its normal state, or the bit of its group is set. The layouts of the kinds
are given with their lengths and the values that drop a report (R176): bytes beyond a layout and flag bits that are not
named are not read. TAMPER follows the flag of a DOOR module that no enabled door names as well (log 47). -/
def Obligations.FieldReportsAreCheckedAndHandedOn : Prop :=
  (∀ (s : State) (f : Frame), f.payload.length ≤ 48 →
    let d := f.srcDevice.toNat
    let tampered := fun (t : State) (q : Report) =>
      let flag : Option Bool :=
        match q with
        | .detector _ _ _ tamper => some tamper
        | .mcp _ tamper => some tamper
        | .motion _ tamper => some tamper
        | .door x => some x.tamper
        | .help _ _ => none
        | .sign _ _ => none
      let detector :=
        match q with
        | .detector .. => true
        | _ => false
      if flag = none ∨ flag = some (s.causes d).tamper then t
      else
        let causes := { s.causes d with tamper := flag.getD false }
        let u := t.putDevice d { s.device d with causes := causes }
        if s.running = true ∧ detector = true then u
        else u.notify (.trouble d (s.deviceEntry d).kind (s.deviceEntry d).zone causes (s.detectorState d))
    let copied := fun t : State =>
      let door := (doorNumbers.find? fun n => (s.doorEntry n).enabled && (s.doorEntry n).module == d).bind fun n =>
        (t.doorRecord n).state
      let sign := signNumbers.find? fun n => (s.signEntry n).enabled && (s.signEntry n).device == d
      let abnormal := t.causes d ≠ .empty ∨ (∃ st, t.detectorState d = some st ∧ st ≠ .quiet)
        ∨ door = some .forced ∨ door = some .fault ∨ door = some .propped
        ∨ ∃ n ∈ sign, (t.signRecord n).fault = true
      if s.mgmt.wing.watchMode = .all ∨ (s.mgmt.wing.watchMode = .trouble ∧ abnormal)
          ∨ s.mgmt.wing.watchMask.getLsbD (d / 16) = true then
        t.notify (.watchCopy d f.tag f.payload)
      else t
    exec (.fieldFrame f.received) s =
      .next (State.beginPass
        (if f.kind ≠ .report then s.count .badFrameF
        else if d = 0 ∨ d = 127 ∨ (s.deviceEntry d).enabled = false then s.count .unknownDevice
        else
          match (s.deviceEntry d).kind.bind fun k => readReport k f.payload with
          | none => s.count .badFrameF
          | some q =>
            let t := tampered (s.putMark s.sup.selector d true) q
            copied (if s.running = true then (t.serveReport d q (s.causes d)).candidate d f.tag f.payload else t))))
    ∧ ∀ p : List Byte,
      let byte := fun i : Nat => (p.getD i 0#8).toNat
      let flag := fun i k : Nat => (p.getD i 0#8).getLsbD k
      let contact := byte 0 / 64
      let lock := byte 0 / 16 % 4
      let arrow : Nat → Arrow := fun n =>
        if n = 0 then .left else if n = 1 then .right else if n = 2 then .ahead else if n = 3 then .up else .down
      (readReport .smoke p =
        if p.length < 3 ∨ 1023 < byte 0 * 256 + byte 1 then none
        else some (.detector .smoke (byte 0 * 256 + byte 1) (flag 2 7) (flag 2 6)))
      ∧ (readReport .heat p = if p.length < 2 then none else some (.detector .heat (byte 0) (flag 1 7) (flag 1 6)))
      ∧ (readReport .mcp p = if p.length < 1 then none else some (.mcp (flag 0 7) (flag 0 6)))
      ∧ (readReport .motion p = if p.length < 1 then none else some (.motion (flag 0 7) (flag 0 6)))
      ∧ (readReport .door p =
        if p.length < 3 ∨ contact = 0 ∨ contact = 3 ∨ lock = 0 ∨ lock = 3 ∨ 15 < byte 1 ∨ 15 < byte 2 then none
        else
          some (.door ⟨if contact = 1 then .closed else .open, decide (lock = 1), flag 0 3, flag 0 2, byte 1, byte 2⟩))
      ∧ (readReport .help p =
        if p.length < 2 ∨ 2 < byte 0 ∨ 3 < byte 1 then none
        else
          some (.help (if byte 0 = 0 then none else if byte 0 = 1 then some .assist else some .urgent)
            (if byte 1 = 0 then .off else if byte 1 = 1 then .waiting else if byte 1 = 2 then .answered else .busy)))
      ∧ readReport .sign p =
        if p.length < 2 then none
        else if byte 0 = 0 then some (.sign .dark (flag 1 7))
        else if byte 0 = 1 then some (.sign .cross (flag 1 7))
        else if 16 ≤ byte 0 ∧ byte 0 ≤ 20 then some (.sign (.steady (arrow (byte 0 - 16))) (flag 1 7))
        else if 24 ≤ byte 0 ∧ byte 0 ≤ 28 then some (.sign (.flashing (arrow (byte 0 - 24))) (flag 1 7))
        else none

/-- An activated report of a call point in a NORMAL or ALERT zone takes the zone through the steps of a fire ALARM:
ALARM with the call point as its cause and its window stopped, the tail of the fire zone list, the evacuation flag and
route-stale set, a pass over the signs under way, every enabled door with the desired setting of its kind, demand and
mode, which for an EGRESS door of the zone is UNLOCK for FIRE, the zone DISARMED, and every live call of the zone at
priority 7 with TRAPPED; EVAC-ON, when the flag was clear, and FIRE-ALARM enter the notice queue while it has room for
two more of their priority. Any other report of a call point keeps its activated flag and does nothing else, but for an
activated report in a TEST zone whose last flag was clear, which sends TEST-PASS. -/
def Obligations.CallPointsRaiseTheAlarm : Prop :=
  (∀ (s : State) (f : Frame), f.payload.length ≤ 48 → f.kind = .report → s.running = true →
    let d := f.srcDevice.toNat
    let z := (s.deviceEntry d).zone
    1 ≤ d → d ≤ 126 → s.enabledAs d .mcp = true → 1 ≤ z → z ≤ 24 →
    (s.fireState z = .normal ∨ s.fireState z = .alert) →
    (∃ b rest, f.payload = b :: rest ∧ b.getLsbD 7 = true) →
    ∃ t, exec (.fieldFrame f.received) s = .next t
      ∧ t.fireState z = .alarm ∧ (t.zoneRecord z).cause = some d ∧ (t.zoneRecord z).window = none
      ∧ t.zone.fireList = s.zone.fireList ++ [z] ∧ t.zone.evacuation = true ∧ t.zone.routeStale = true
      ∧ t.sign.pass.isSome = true
      ∧ (∀ n ∈ doorNumbers, (s.doorEntry n).enabled = true →
        ((t.doorRecord n).desired, (t.doorRecord n).cause) = t.desiredOf n
        ∧ ((s.doorEntry n).kind = .egress → (s.doorEntry n).sideA = z ∨ (s.doorEntry n).sideB = z →
            (t.doorRecord n).desired = .unlock ∧ (t.doorRecord n).cause = .fire))
      ∧ t.guardRecord z = ⟨.disarmed, none, none, none, none, 0⟩
      ∧ (∀ c ∈ t.call.calls, c.zone = z → c.priority = 7 ∧ c.trapped = true)
      ∧ ((s.port.notices.filter (·.notice.priority == 0)).length ≤ 62 →
        (s.zone.evacuation = false → ∃ e ∈ t.port.notices, e.notice = .evacOn z)
        ∧ ∃ e ∈ t.port.notices, e.notice =
            .fireAlarm z (s.zoneEntry z).kind d (s.occupancyMark z) ((s.zone.fireList ++ [z]).headD 0))
      ∧ t.activatedFlag d = true
      ∧ (∀ w, w ≠ z → t.zoneRecord w = s.zoneRecord w ∧ t.guardRecord w = s.guardRecord w))
    ∧ ∀ (s : State) (d : Nat) (activated tamper : Bool) (was : Causes),
      let z := (s.deviceEntry d).zone
      ¬(activated = true ∧ (s.fireState z = .normal ∨ s.fireState z = .alert)) →
      let t := { s with zone.activated := place s.zone.activated d activated }
      s.serveReport d (.mcp activated tamper) was =
        if activated = true ∧ s.fireState z = .test ∧ s.activatedFlag d = false then t.notify (.testPass d z none) else t

/-- The report of a SMOKE or HEAT device is judged by the five stages: the baseline and limits fixed, the
classification, the filter step, the compare result and the move of the detector by it, with PRE and ABOVE taken as
BELOW in a DISABLED zone. An entry to ALARM returns the detector with TEST-PASS in TEST and is told to the Zone Unit
elsewhere; an entry to PRE sends DETECTOR-PRE but in TEST; a changed cause set or an entry to TROUBLE sends one
TROUBLE notice. Detectors the Zone Unit returns to QUIET keep their baseline, limits, classification, compare result
and set. -/
def Obligations.DetectorReportsAreEvaluated : Prop :=
  (∀ (s : State) (d : Nat) (kind : DetectorKind) (reading : Nat) (fault tamper : Bool) (was : Causes) (det : Detector),
    s.detector d = some det →
    let z := (s.deviceEntry d).zone
    let e := s.classEntry (s.deviceEntry d).cls
    let set := match s.mgmt.mode with
      | .day => e.day
      | .night => e.night
    let top := match kind with
      | .smoke => 1023
      | .heat => 255
    let fresh := kind = .heat ∨ (det.baseline = 0 ∧ e.loaded = true)
    let baseline := if fresh then 16 * e.b0 else det.baseline
    let bad := e.loaded = false ∨ fault = true ∨ reading = 0
    let cls : Classification :=
      if s.missing d = true then .absent
      else if bad then .fault
      else if reading = top then .saturated
      else if reading < e.floor then .low
      else .normal
    let steps := cls = .normal ∨ cls = .saturated
    let net : Int := 16 * ((if cls = .saturated then top - 1 else reading : Nat) : Int) - (baseline : Int)
    let f := if steps then det.filtered + (net - det.filtered).tdiv (2 ^ set.s) else det.filtered
    let result : Compare :=
      if ¬steps then .unordered
      else if cls = .saturated ∨ 16 * (set.a : Int) ≤ f then .above
      else if 16 * (set.p : Int) ≤ f then .pre
      else .below
    let count := if det.state = .verify then det.verify + 1 else 1
    let move : DetectorState × Nat :=
      if det.state = .alarm ∨ det.state = .disabled then (det.state, det.verify)
      else if result = .unordered then (.trouble, 0)
      else if result = .below ∨ s.fireState z = .disabled then (.quiet, 0)
      else if result = .pre then (.pre, 0)
      else if set.v ≤ count then (.alarm, count)
      else (.verify, count)
    let moved : Detector :=
      ⟨move.1, baseline, if fresh then e.bmin else det.limitLow, if fresh then e.bmax else det.limitHigh, f, move.2, cls,
        result, if cls = .normal then some reading else none, some s.mgmt.mode⟩
    let causes : Causes := { s.causes d with
      fault := decide bad
      low := decide (0 < reading ∧ reading < e.floor ∧ fault = false ∧ e.loaded = true) }
    let t := (s.putCauses d causes).putDetector d (some moved)
    let passes := move.1 = .alarm ∧ det.state ≠ .alarm ∧ s.fireState z = .test
    let u :=
      if passes then
        (t.putDetector d (some { moved with state := .quiet, verify := 0, filtered := 0, lastNormal := none })).notify
          (.testPass d z (some f))
      else if move.1 = .alarm ∧ det.state ≠ .alarm then t.knock z d
      else if move.1 = .pre ∧ det.state ≠ .pre ∧ s.fireState z ≠ .test then
        t.notify (.detectorPre d z reading f s.mgmt.mode)
      else t
    s.serveReport d (.detector kind reading fault tamper) was =
      if causes ≠ was ∨ (move.1 = .trouble ∧ det.state ≠ .trouble) then
        u.notify (.trouble d (s.deviceEntry d).kind z causes (some (if passes then .quiet else move.1)))
      else u)
    ∧ ∀ (s : State) (z d : Nat), (s.returnDetectors z).detector d =
        if 1 ≤ d ∧ (s.deviceEntry d).zone = z ∧ s.detectorState d = some .alarm then
          (s.detector d).map fun det =>
            { det with state := .quiet, verify := 0, filtered := 0, lastNormal := none }
        else s.detector d

/-- A coincidence group is the least set of zones that holds its zone and every zone an open FIRE door joins to one of
it, zones in TEST and DISABLED joining none. A detector that enters ALARM takes to ALARM: in a SINGLE zone that zone,
and with two ALARM detectors in the group every DOUBLE zone of it that stands in ALERT with an ALARM detector; in a
DOUBLE zone, with two ALARM detectors in the group, every zone of it with one; its own zone first. A first knock of a
NORMAL DOUBLE zone takes it to ALERT with its window started. The fire zone list, causes, windows, flags, doors,
guarding, calls and the fire notices follow, and nothing else happens without an entry. -/
def Obligations.KnocksSpreadThroughTheGroup : Prop :=
  (∀ (s : State) (z : Nat), z ∈ zoneNumbers →
    let joins := fun x w : Nat => w ∈ zoneNumbers ∧ s.fireState w ≠ .test ∧ s.fireState w ≠ .disabled
      ∧ ∃ n ∈ doorNumbers, (s.doorEntry n).enabled = true ∧ (s.doorEntry n).kind = .fire
        ∧ (s.doorRecord n).contact = some .open
        ∧ ((s.doorEntry n).sideA = x ∧ (s.doorEntry n).sideB = w ∨ (s.doorEntry n).sideA = w ∧ (s.doorEntry n).sideB = x)
    z ∈ s.group z ∧ (s.group z).Pairwise (· < ·)
      ∧ (∀ x ∈ s.group z, ∀ w, joins x w → w ∈ s.group z)
      ∧ ∀ g : List Nat, z ∈ g → (∀ x ∈ g, ∀ w, joins x w → w ∈ g) → ∀ x ∈ s.group z, x ∈ g)
    ∧ ∀ (s : State) (z d : Nat), z ∈ zoneNumbers →
      let holds := fun w : Nat =>
        w ∈ s.group z ∧ ∃ x ∈ deviceNumbers, (s.deviceEntry x).zone = w ∧ s.detectorState x = some .alarm
      let two := 2 ≤ (deviceNumbers.filter fun x =>
        decide ((s.deviceEntry x).zone ∈ s.group z ∧ s.detectorState x = some .alarm)).length
      let entering : List Nat :=
        match (s.zoneEntry z).mode with
        | .single =>
          (if s.fireState z = .normal ∨ s.fireState z = .alert then [z] else [])
            ++ zoneNumbers.filter fun w =>
              decide (two ∧ w ≠ z ∧ holds w ∧ s.fireState w = .alert ∧ (s.zoneEntry w).mode = .double)
        | .double =>
          (if two ∧ holds z ∧ s.fireState z ≠ .alarm then [z] else [])
            ++ zoneNumbers.filter fun w => decide (two ∧ w ≠ z ∧ holds w ∧ s.fireState w ≠ .alarm)
      let first := (s.zoneEntry z).mode = .double ∧ ¬two ∧ s.fireState z = .normal
      let t := s.knock z d
      (entering = [] → ¬first → t = s)
        ∧ t.zone.fireList = s.zone.fireList ++ entering
        ∧ t.zone.evacuation = (s.zone.evacuation || !entering.isEmpty)
        ∧ (∀ w ∈ zoneNumbers,
          t.zoneRecord w =
              (if w ∈ entering then { s.zoneRecord w with fire := .alarm, cause := some d, window := none }
              else if first ∧ w = z then
                { s.zoneRecord w with fire := .alert, window := some ⟨s.clock, s.mgmt.wing.knockWindow * 25000⟩ }
              else s.zoneRecord w)
            ∧ t.guardRecord w =
              if w ∈ entering then ⟨.disarmed, none, none, none, none, 0⟩ else s.guardRecord w)
        ∧ (entering ≠ [] ∨ first → t.zone.routeStale = true
          ∧ ∀ n ∈ doorNumbers, (s.doorEntry n).enabled = true →
            ((t.doorRecord n).desired, (t.doorRecord n).cause) = t.desiredOf n)
        ∧ (∀ c ∈ t.call.calls, c.zone ∈ entering → c.priority = 7 ∧ c.trapped = true)
        ∧ ((s.port.notices.filter (·.notice.priority == 0)).length + entering.length < 64 →
          (first → ∃ e ∈ t.port.notices, e.notice = .fireAlert z (s.zoneEntry z).kind d)
          ∧ (∀ w ∈ entering, s.zone.evacuation = false → entering.head? = some w →
            ∃ e ∈ t.port.notices, e.notice = .evacOn w)
          ∧ ∀ w ∈ entering, ∃ e ∈ t.port.notices, e.notice =
            .fireAlarm w (s.zoneEntry w).kind d (s.occupancyMark w) ((s.zone.fireList ++ entering).headD 0))
        ∧ t.mgmt = s.mgmt ∧ t.sup = s.sup ∧ t.det = s.det ∧ t.door.occupancy = s.door.occupancy

/-- A DOOR report as the Door Unit takes it: a closing takes AJAR, OPEN_AUTH and PROPPED to SECURED; an opening of a
SECURED door forces it, with the latch set, or is authorised by a pulse window; leaving SECURED closes the window, and
the held timer runs in OPEN_AUTH; contact, lock feedback and exit flag are kept; a new exit request of a SECURED
EGRESS or SECURE door desired LOCK asks for a class 0 PULSE, skipped and counted when no record may be taken; passages
move people between the counted side zones, A to B first, with excesses clamped and told. The events for the Guard
Unit come with it. -/
def Obligations.DoorReportsMoveTheDoor : Prop :=
  ∀ (s : State) (n : Nat) (q : DoorReport), n ≤ 31 →
    let e := s.doorEntry n
    let r := s.doorRecord n
    let closing := q.contact = .closed ∧ r.contact = some .open
    let opening := q.contact = .open ∧ r.contact ≠ some .open
    let forced := opening ∧ r.state = some .secured ∧ r.window = .closed
    let new : Option DoorState :=
      if closing ∧ (r.state = some .ajar ∨ r.state = some .openAuth ∨ r.state = some .propped) then some .secured
      else if forced then some .forced
      else if opening ∧ r.state = some .secured then some .openAuth
      else r.state
    let left := r.state = some .secured ∧ new ≠ r.state
    let heldNow := new = some .openAuth ∧ new ≠ r.state ∧ e.heldA = 0 ∧ 0 < e.heldB
    let window := if left then .closed else r.window
    let feedback : LockFeedback :=
      match e.kind, q.locked with
      | .fire, true => .held
      | .fire, false => .free
      | _, true => .locked
      | _, false => .unlocked
    let t := s.putDoor n { r with
      state := new
      contact := some q.contact
      feedback := some feedback
      latch := r.latch || decide forced
      window := window
      pulseTimer := if left then none else r.pulseTimer
      heldTimer := if new = r.state then r.heldTimer
        else if new = some .openAuth then some ⟨s.clock, e.heldB * 25000⟩ else none
      heldReached := if new = r.state then r.heldReached else decide heldNow }
    let u := if t.passable n = s.passable n then t else t.setStale
    let v :=
      if closing ∧ r.state = some .propped then u.notify (.doorClosed n e.sideA e.sideB)
      else if forced then u.notify (.doorForced n e.kind e.sideA e.sideB s.mgmt.mode)
      else if heldNow then u.notify (.doorHeld n e.sideA e.sideB 0)
      else u
    let exit := q.exit = true ∧ r.exitFlag = false
    let asks := exit ∧ (e.kind = .egress ∨ e.kind = .secure) ∧ new = some .secured ∧ r.desired = .lock ∧ window = .closed
    let w :=
      if ¬asks then v
      else
        match takeRequest ⟨e.module, .pulse s.mgmt.wing.pulseTime, 0, true⟩ s.order.pool with
        | none => v.count .ordersSkipped
        | some (pool, rose) =>
          let x := if rose then (v.putPool pool).serve else (v.putPool pool).lookForSend
          x.putDoor n { x.doorRecord n with window := .pending }
    let leave := fun (y : State) (z c : Nat) =>
      let o := y.occupancy z
      if z = 0 ∨ s.counted z = false ∨ c = 0 then y
      else if c ≤ o.count then y.putOccupancy z { o with count := o.count - c }
      else (y.putOccupancy z ⟨0, min 255 (o.undercount + (c - o.count)), o.overcount⟩).notify
        (.occupancyClamp z false (c - o.count))
    let join := fun (y : State) (z c : Nat) =>
      let o := y.occupancy z
      if z = 0 ∨ s.counted z = false ∨ c = 0 then y
      else if o.count + c ≤ 4095 then y.putOccupancy z { o with count := o.count + c }
      else (y.putOccupancy z ⟨4095, o.undercount, min 255 (o.overcount + (o.count + c - 4095))⟩).notify
        (.occupancyClamp z true (o.count + c - 4095))
    let y := w.putDoor n { w.doorRecord n with exitFlag := q.exit }
    s.applyDoorReport n q =
      (join (leave (join (leave y e.sideA q.ab) e.sideB q.ab) e.sideB q.ba) e.sideA q.ba,
        ⟨decide opening, decide forced, decide exit, q.tamper⟩)

/-- MOTION, DOOR and HELP reports as the Guard Unit judges them by the table of intrusion sources: motion and then
tamper in the device's zone, with PRESENCE for new motion in an empty counted DISARMED zone at NIGHT; the opening (as
FORCED when it forced the door) and then the exit request of a door whose desired cause is not FIRE (logs 18 and 33),
and then its module's tamper, in each side zone, side A first (log 34); a press at NIGHT. A report of a module no
enabled door has, and a HELP report without a press, change nothing. -/
def Obligations.ReportsAreJudgedByTheGuard : Prop :=
  ∀ (s : State) (d : Nat) (was : Causes),
    let z := (s.deviceEntry d).zone
    (∀ motion tamper : Bool,
      let t :=
        if motion = false then s
        else if (s.guardRecord z).state ≠ .disarmed then s.judgeSource z .motion d false
        else if s.mgmt.mode = .night ∧ s.counted z = true ∧ (s.occupancy z).count = 0 ∧ s.motionFlag d = false then
          s.notify (.presence z d)
        else s
      let u := { t with guard.motion := place s.guard.motion d motion }
      s.serveReport d (.motion motion tamper) was = if tamper then u.judgeSource z .tamper d false else u)
    ∧ (∀ q : DoorReport,
      ((∀ n ∈ doorNumbers, (s.doorEntry n).enabled = true → (s.doorEntry n).module ≠ d) →
        s.serveReport d (.door q) was = s)
      ∧ ∀ n ∈ doorNumbers, (s.doorEntry n).enabled = true → (s.doorEntry n).module = d →
        (∀ k < n, (s.doorEntry k).enabled = true → (s.doorEntry k).module ≠ d) →
        let e := s.doorEntry n
        let r := s.doorRecord n
        let opening := q.contact = .open ∧ r.contact ≠ some .open
        let source : SourceKind := if r.state = some .secured ∧ r.window = .closed then .forced else .opening
        let t := (s.applyDoorReport n q).1
        let u := if opening ∧ r.cause ≠ .fire then t.judgeSides n source n e.entryDoor else t
        let v := if q.exit = true ∧ r.exitFlag = false ∧ r.cause ≠ .fire then u.judgeSides n .exitRequest n e.entryDoor
          else u
        s.serveReport d (.door q) was = if q.tamper = true then v.judgeSides n .tamper d false else v)
    ∧ ∀ lamp : LampState, s.serveReport d (.help none lamp) was = s
      ∧ ∀ k : CallKind, s.serveReport d (.help (some k) lamp) was =
        if s.mgmt.mode = .night then (s.press d k).judgeSource z .help d false else s.press d k

/-- A press of a help point: with a TAKEN call REPEAT-PRESS alone; with another live call of the point it joins it,
counted up to 15 and URGENT raising an ASSIST call to the URGENT base; without one a call is created at the tail under
the first free number from the pointer, at its kind's base priority or 7 with TRAPPED in a zone in ALARM, its cycle
started; a full queue evicts the youngest WAITING call of the lowest priority if that is below the newcomer's, and
loses the press otherwise. Pre-emption and the offering check end the event: an OFFERED call below 7 is withdrawn when
a WAITING call has reached 7, and the first WAITING call in queue order above the attention level is offered while
none is and the link is ONLINE. -/
def Obligations.PressesJoinCreateOrEvict : Prop :=
  (∀ (s : State) (d : Nat) (k : CallKind), s.callLaw →
    let calls := s.call.calls
    let burning := s.fireState (s.deviceEntry d).zone = .alarm
    let p := if burning then 7 else match k with
      | .assist => s.mgmt.wing.assistBase
      | .urgent => s.mgmt.wing.urgentBase
    let a := s.mgmt.wing.stepA
    let b := s.mgmt.wing.cycleB
    let stepNow := a = 0 ∧ 0 < b
    let numberAt := fun i : Nat => (s.call.nextNumber - 1 + i) % 254 + 1
    let takes := fun (live : List Call) (i : Nat) => i < 254 ∧ (∀ j < i, ∃ c ∈ live, c.number = numberAt j)
      ∧ ∀ c ∈ live, c.number ≠ numberAt i
    let created := fun (t : State) (n : Nat) =>
      State.requestLamp { t with
        call.calls := t.call.calls ++ [⟨n, d, (s.deviceEntry d).zone, k, if stepNow ∧ p < 7 then p + 1 else p, .waiting,
          1, decide burning, false, some ⟨s.clock, a, b, decide stepNow⟩, 0⟩]
        call.nextNumber := if n < 254 then n + 1 else 1 } d .waiting
    (∀ before c after, calls = before ++ c :: after → c.point = d →
      s.press d k =
        if c.state = .taken then s.notify (.repeatPress c.number d c.zone k)
        else
          let rises := k = .urgent ∧ c.kind = .assist
          (s.putCalls (before ++ { c with
            press := if c.press < 15 then c.press + 1 else c.press
            kind := if rises then .urgent else c.kind
            priority := if rises then max c.priority s.mgmt.wing.urgentBase else c.priority } :: after)).judgeOffers calls)
    ∧ ((∀ c ∈ calls, c.point ≠ d) →
      (calls.length < 16 → ∀ i, takes calls i → s.press d k = (created s (numberAt i)).judgeOffers calls)
      ∧ (16 ≤ calls.length → (∀ c ∈ calls, c.state = .waiting → p ≤ c.priority) →
        s.press d k = ((s.count .callsLost).requestLamp d .busy).judgeOffers calls)
      ∧ ∀ before v after, 16 ≤ calls.length → calls = before ++ v :: after → v.state = .waiting → v.priority < p →
        (∀ x ∈ before, x.state = .waiting → v.priority ≤ x.priority) →
        (∀ x ∈ after, x.state = .waiting → v.priority < x.priority) → ∀ i, takes (before ++ after) i →
        s.press d k =
          (created (((s.putCalls (before ++ after)).notify
            (.callDropped v.number v.point v.zone v.kind v.priority d)).requestLamp v.point .busy)
            (numberAt i)).judgeOffers calls))
    ∧ (∀ (s : State) (old : List Call), s.callLaw →
      s.call.calls.Pairwise (fun a b => ¬(a.state = .offered ∧ b.state = .offered)) →
      let reached := ∃ c ∈ s.call.calls, c.state = .waiting ∧ c.priority = 7
        ∧ ∀ b ∈ old, b.number = c.number → b.priority ≠ 7
      (∀ before c after, s.call.calls = before ++ c :: after → c.state = .offered → c.priority < 7 → reached →
        s.judgeOffers old =
          ((s.putCalls (before ++ { c with state := .waiting } :: after)).notify
            (.callWithdrawn c.number .preEmpted)).offeringCheck)
      ∧ ((∀ c ∈ s.call.calls, c.state = .offered → ¬(c.priority < 7 ∧ reached)) →
        s.judgeOffers old = s.offeringCheck))
    ∧ ∀ s : State, s.callLaw →
      ((∃ c ∈ s.call.calls, c.state = .offered) ∨ s.port.link = .standAlone
          ∨ (∀ c ∈ s.call.calls, c.state = .waiting → c.priority ≤ s.call.attention) → s.offeringCheck = s)
      ∧ ∀ before c after, s.call.calls = before ++ c :: after → (∀ x ∈ s.call.calls, x.state ≠ .offered) →
        s.port.link = .online → c.state = .waiting → s.call.attention < c.priority →
        (∀ x ∈ before, x.state = .waiting → x.priority < c.priority) →
        (∀ x ∈ after, x.state = .waiting → x.priority ≤ c.priority) →
        s.offeringCheck =
          (s.putCalls (before ++ { c with state := .offered } :: after)).notify
            (.callOffer c.number c.point c.zone c.kind c.priority c.press c.trapped c.unanswered)

/-- The report of a SIGN device: SIGN_FAULT follows the lamp-fail flag, with TROUBLE when the cause set changes; an
echo that differs from a known commanded display of a sign that is not in FAULT, MISSING or owed, with no SHOW waiting
or in flight, makes the commanded display UNKNOWN and sets route-stale; the echo is kept. A device no enabled sign
names reaches no sign. -/
def Obligations.SignReportsAreCompared : Prop :=
  ∀ (s : State) (d : Nat) (echo : Display) (lampFail : Bool) (was : Causes), 1 ≤ d → d ≤ 126 →
    ((∀ n ∈ signNumbers, (s.signEntry n).enabled = true → (s.signEntry n).device ≠ d) →
      s.serveReport d (.sign echo lampFail) was = s)
    ∧ ∀ n ∈ signNumbers, (s.signEntry n).enabled = true → (s.signEntry n).device = d →
      (∀ k < n, (s.signEntry k).enabled = true → (s.signEntry k).device ≠ d) →
      let r := s.signRecord n
      let causes := { s.causes d with signFault := lampFail }
      let t :=
        if (s.causes d).signFault = lampFail then s
        else (s.putDevice d { s.device d with causes := causes }).notify
          (.trouble d (s.deviceEntry d).kind (s.deviceEntry d).zone causes (s.detectorState d))
      s.serveReport d (.sign echo lampFail) was =
        if r.commanded ≠ none ∧ r.commanded ≠ some echo ∧ r.fault = false ∧ r.owed = false ∧ s.missing d = false
            ∧ (∀ q ∈ s.order.pool, q.target = d → q.code.family ≠ .display) then
          (t.putSign n { r with commanded := none, echo := some echo }).setStale
        else t.putSign n { r with echo := some echo }

/-- A report with the tag of the record in flight, from its target, confirms it; any other leaves the pool as it is.
The record is freed, the owner of the target is told, ORDER-DONE is sent when NOTIFY is set, and owed objects are
served. A door's confirmed setting becomes its commanded one, a PENDING window closes, a FAULT ends with
DOOR-RESTORED, the door settles, and a further order is requested if the desired setting differs. A PULSE opens a
PENDING window, or a CLOSED one of a SECURED door, with its timer started, and leaves an OPEN one (log 24). A SHOW
becomes the commanded display, ends a FAULT with SIGN-RESTORED, and requests a further order if the display last asked
for differs from the desired one, unless the sign is owed or MISSING (log 39). A LAMP clears LAMP_FAULT; a RAW order
is answered DONE with up to 40 bytes of the report. -/
def Obligations.ConfirmedOrdersTakeEffect : Prop :=
  (∀ (s : State) (d : Nat) (tag : Byte) (report : List Byte), (∀ r ∈ s.order.pool, r.inFlight = false) →
    s.candidate d tag report = s)
    ∧ ∀ (s : State) (d : Nat) (tag : Byte) (report : List Byte) (before : List OrderRecord) (r : OrderRecord)
      (after : List OrderRecord), s.order.pool = before ++ r :: after → r.inFlight = true →
      (∀ x ∈ before, x.inFlight = false) →
      let freed : State := { s with order.pool := before ++ after, order.confirmTimer := none }
      let doors : Option Nat := doorNumbers.find? fun n => (s.doorEntry n).enabled && (s.doorEntry n).module == d
      let signs : Option Nat := signNumbers.find? fun n => (s.signEntry n).enabled && (s.signEntry n).device == d
      let settled : DoorRecord → Setting → DoorState := fun x v =>
        match v with
        | .unlock => if x.desired = .unlock ∧ x.cause = .fire then .released else if x.latch = true then .forced else .free
        | .lock =>
          if x.state = some .openAuth then .openAuth
          else if x.state = some .propped then .propped
          else if x.latch = true then .forced
          else if x.contact = some .open then .ajar
          else .secured
        | .hold => .held
        | .release => .shut
      let restored : State → Nat → State := fun t n =>
        let u := if t.passable n = s.passable n then t else t.setStale
        if (s.doorRecord n).state = some .fault then u.notify (.doorRestored n d) else u
      let set : Setting → State := fun v =>
        match doors with
        | none => freed
        | some n =>
          let x := s.doorRecord n
          let stays := x.state = some (settled x v)
          let left := x.state = some .secured ∧ ¬stays
          let t := restored (freed.putDoor n { x with
            state := some (settled x v)
            commanded := some v
            window := if left ∨ x.window = .pending then .closed else x.window
            pulseTimer := if left then none else x.pulseTimer
            heldTimer := if stays then x.heldTimer else none
            heldReached := x.heldReached && decide stays
            fault := if x.state = some .fault then none else x.fault }) n
          if x.desired = v then t else t.requestDoor n
      let told : State :=
        match r.code with
        | .lock => set .lock
        | .unlock => set .unlock
        | .hold => set .hold
        | .release => set .release
        | .pulse _ =>
          (match doors with
          | none => freed
          | some n =>
            let x := s.doorRecord n
            let y := if x.state = some .fault then { x with
                state := some (settled x (x.commanded.getD x.desired))
                heldTimer := none
                heldReached := false
                fault := none }
              else x
            let t := restored (freed.putDoor n
              (if y.window = .pending ∨ (y.window = .closed ∧ y.state = some .secured) then
                { y with window := .open, pulseTimer := some ⟨s.clock, s.mgmt.wing.pulseTime * 25000⟩ }
              else y)) n
            if x.commanded = some x.desired then t else t.requestDoor n)
        | .display shown =>
          (match signs with
          | none => freed
          | some n =>
            let x := s.signRecord n
            let t := freed.putSign n { x with commanded := some shown, fault := false }
            let u := if x.fault = true then t.notify (.signRestored n d) else t
            let ordered := fun flying : Bool =>
              ((before ++ after).filter fun q => q.inFlight == flying && q.target == d).findSome? fun q =>
                match q.code with
                | .display c => some c
                | _ => none
            if x.desired = (ordered false).or ((ordered true).or (some shown)) ∨ x.owed = true ∨ s.missing d = true then u
            else
              match takeRequest ⟨d, .display (x.desired.getD .dark), if s.zone.evacuation then 0 else 1, s.zone.evacuation⟩
                (before ++ after) with
              | some (pool, true) => (u.putPool pool).serve
              | some (pool, false) => (u.putPool pool).lookForSend
              | none => (u.oweSign n true).serve)
        | .lamp _ =>
          if (s.deviceEntry d).enabled = true ∧ (s.deviceEntry d).kind = some .help ∧ (s.causes d).lampFault = true then
            let causes := { s.causes d with lampFault := false }
            (freed.putDevice d { s.device d with causes := causes }).notify
              (.trouble d (some .help) (s.deviceEntry d).zone causes (s.detectorState d))
          else freed
        | .raw _ =>
          match r.origin with
          | .internal => freed
          | .relayed p station device t =>
            freed.fill p (.forOrder station device t)
              ⟨station, device, s.stationNumber, 0#7, .answer, 15#4, t, 0x00#8 :: 0x00#8 :: report.take 40⟩
      s.candidate d tag report =
        if tag = 0#8 ∨ r.target ≠ d ∨ r.tag ≠ some tag.toNat then s
        else if r.notify = true then (told.notify (.orderDone d r.code r.cls (r.attempts + 1))).serve
        else told.serve

/-! ### Laws of the device -/

/-- Every step keeps the order pool law. -/
def Obligations.StepsKeepTheOrderLaw : Prop :=
  ∀ s t : State, s.orderLaw → step s = .next t → t.orderLaw

/-- Every step keeps the call queue law and the offering law, and none lowers the priority of a call that stays in the
queue. -/
def Obligations.StepsKeepTheCallLaws : Prop :=
  (∀ s t : State, s.callLaw → s.offerLaw → step s = .next t → t.callLaw ∧ t.offerLaw)
    ∧ ∀ s t : State, s.callLaw → step s = .next t →
    ∀ c ∈ s.call.calls, ∀ c' ∈ t.call.calls, c'.number = c.number → c'.point = c.point → c.priority ≤ c'.priority

/-- Every step keeps the law of fire and guarding. -/
def Obligations.StepsKeepTheGuardLaw : Prop :=
  ∀ s t : State, s.guardLaw → step s = .next t → t.guardLaw

/-- Every step keeps the fire zone list the zones in fire ALARM, each once. -/
def Obligations.StepsKeepTheFireList : Prop :=
  ∀ s t : State, s.fireListLaw → step s = .next t → t.fireListLaw

/-- Every step keeps the occupancy law. -/
def Obligations.StepsKeepTheOccupancyLaw : Prop :=
  ∀ s t : State, s.occupancyLaw → step s = .next t → t.occupancyLaw

/-- Every step keeps the bounds of the queues and counters, and an answer entry for every relayed order in the pool. -/
def Obligations.StepsKeepThePortLaw : Prop :=
  ∀ s t : State, s.portLaw → step s = .next t → t.portLaw

/-- Every step keeps the law of fire release, with every desired setting the one its kind, demand and mode give. -/
def Obligations.StepsKeepTheReleaseLaw : Prop :=
  ∀ s t : State, s.releaseLaw → step s = .next t → t.releaseLaw

/-- Every step keeps the sign law, and with it the law of routes: while the wing evacuates and route-stale is clear, a
commanded display of a sign under evaluation leads into no fire, or a SHOW order stands. -/
def Obligations.StepsKeepTheSignLaw : Prop :=
  (∀ s t : State, s.signLaw → step s = .next t → t.signLaw)
    ∧ ∀ s : State, s.signLaw → s.running = true → s.routeLaw

/-- A strongroom stays shut but for a permit: a step puts an order other than LOCK, of the codes a door takes, into
the pool for an enabled STRONGROOM door's module only where one stood already, or where the step is an OPEN-DOOR of
station 0 that names the door while the permit names it. Every step keeps the permit law, by which the permit names none
but an enabled STRONGROOM door. -/
def Obligations.StrongroomsOpenByPermitAlone : Prop :=
  (∀ s t : State, s.desiredLaw → s.modulesLaw → s.permitLaw → step s = .next t →
    let opens := fun (target : Nat) (r : OrderRecord) => r.target = target
      ∧ (r.code = .unlock ∨ r.code = .hold ∨ r.code = .release ∨ (∃ n, r.code = .pulse n) ∨ ∃ p, r.code = .raw p)
    ∀ d, (t.doorEntry d).enabled = true → (t.doorEntry d).kind = .strongroom →
      (∃ r ∈ t.order.pool, opens (t.doorEntry d).module r) →
      (∃ r ∈ s.order.pool, opens (t.doorEntry d).module r)
        ∨ (s.door.permit = some d ∧ t.door.permit = none ∧ ∃ h b rest, h.srcStation = 0#5 ∧ b.toNat = d
          ∧ h.destStation = s.stationNumber
          ∧ (s.pending = .openDoor h b :: rest ∨ s.pending = .setBadRequest h [0x0D#8, b] :: rest
            ∨ s.pending = .backboneFrame h.port (headerFrame h .set [0x0D#8, b]).received :: rest)))
    ∧ ∀ s t : State, s.permitLaw → step s = .next t → t.permitLaw

/-- Every step keeps every filtered value, baseline and verify count in its range. -/
def Obligations.StepsKeepTheDetectorLaw : Prop :=
  ∀ s t : State, s.detectorLaw → step s = .next t → t.detectorLaw

/-- The machine after a cold start satisfies every law. -/
def Obligations.ResetSatisfiesEveryLaw : Prop :=
  State.reset.orderLaw ∧ State.reset.callLaw ∧ State.reset.offerLaw ∧ State.reset.guardLaw ∧ State.reset.fireListLaw
    ∧ State.reset.occupancyLaw ∧ State.reset.portLaw ∧ State.reset.releaseLaw ∧ State.reset.detectorLaw
    ∧ State.reset.signLaw ∧ State.reset.permitLaw
end

