-- ==== Sys2Proof/Laws/State.lean ====
section
/-! SUPPORT. One lemma per unit per update of the state, true by `rfl`: what an update of one unit leaves as it was. -/

namespace Sys2Proof.Machine

variable (s : State)

/-! ### State.putZoneEntry -/

@[simp] theorem State.putZoneEntry_pending (z : Nat) (e : ZoneEntry) : (s.putZoneEntry z e).pending = s.pending := rfl
@[simp] theorem State.putZoneEntry_clock (z : Nat) (e : ZoneEntry) : (s.putZoneEntry z e).clock = s.clock := rfl
@[simp] theorem State.putZoneEntry_port (z : Nat) (e : ZoneEntry) : (s.putZoneEntry z e).port = s.port := rfl
@[simp] theorem State.putZoneEntry_sup (z : Nat) (e : ZoneEntry) : (s.putZoneEntry z e).sup = s.sup := rfl
@[simp] theorem State.putZoneEntry_det (z : Nat) (e : ZoneEntry) : (s.putZoneEntry z e).det = s.det := rfl
@[simp] theorem State.putZoneEntry_zone (z : Nat) (e : ZoneEntry) : (s.putZoneEntry z e).zone = s.zone := rfl
@[simp] theorem State.putZoneEntry_door (z : Nat) (e : ZoneEntry) : (s.putZoneEntry z e).door = s.door := rfl
@[simp] theorem State.putZoneEntry_guard (z : Nat) (e : ZoneEntry) : (s.putZoneEntry z e).guard = s.guard := rfl
@[simp] theorem State.putZoneEntry_call (z : Nat) (e : ZoneEntry) : (s.putZoneEntry z e).call = s.call := rfl
@[simp] theorem State.putZoneEntry_sign (z : Nat) (e : ZoneEntry) : (s.putZoneEntry z e).sign = s.sign := rfl
@[simp] theorem State.putZoneEntry_order (z : Nat) (e : ZoneEntry) : (s.putZoneEntry z e).order = s.order := rfl

/-! ### State.putDeviceEntry -/

@[simp] theorem State.putDeviceEntry_pending (d : Nat) (e : DeviceEntry) : (s.putDeviceEntry d e).pending = s.pending := rfl
@[simp] theorem State.putDeviceEntry_clock (d : Nat) (e : DeviceEntry) : (s.putDeviceEntry d e).clock = s.clock := rfl
@[simp] theorem State.putDeviceEntry_port (d : Nat) (e : DeviceEntry) : (s.putDeviceEntry d e).port = s.port := rfl
@[simp] theorem State.putDeviceEntry_sup (d : Nat) (e : DeviceEntry) : (s.putDeviceEntry d e).sup = s.sup := rfl
@[simp] theorem State.putDeviceEntry_det (d : Nat) (e : DeviceEntry) : (s.putDeviceEntry d e).det = s.det := rfl
@[simp] theorem State.putDeviceEntry_zone (d : Nat) (e : DeviceEntry) : (s.putDeviceEntry d e).zone = s.zone := rfl
@[simp] theorem State.putDeviceEntry_door (d : Nat) (e : DeviceEntry) : (s.putDeviceEntry d e).door = s.door := rfl
@[simp] theorem State.putDeviceEntry_guard (d : Nat) (e : DeviceEntry) : (s.putDeviceEntry d e).guard = s.guard := rfl
@[simp] theorem State.putDeviceEntry_call (d : Nat) (e : DeviceEntry) : (s.putDeviceEntry d e).call = s.call := rfl
@[simp] theorem State.putDeviceEntry_sign (d : Nat) (e : DeviceEntry) : (s.putDeviceEntry d e).sign = s.sign := rfl
@[simp] theorem State.putDeviceEntry_order (d : Nat) (e : DeviceEntry) : (s.putDeviceEntry d e).order = s.order := rfl

/-! ### State.putClassEntry -/

@[simp] theorem State.putClassEntry_pending (c : Nat) (e : ClassEntry) : (s.putClassEntry c e).pending = s.pending := rfl
@[simp] theorem State.putClassEntry_clock (c : Nat) (e : ClassEntry) : (s.putClassEntry c e).clock = s.clock := rfl
@[simp] theorem State.putClassEntry_port (c : Nat) (e : ClassEntry) : (s.putClassEntry c e).port = s.port := rfl
@[simp] theorem State.putClassEntry_sup (c : Nat) (e : ClassEntry) : (s.putClassEntry c e).sup = s.sup := rfl
@[simp] theorem State.putClassEntry_det (c : Nat) (e : ClassEntry) : (s.putClassEntry c e).det = s.det := rfl
@[simp] theorem State.putClassEntry_zone (c : Nat) (e : ClassEntry) : (s.putClassEntry c e).zone = s.zone := rfl
@[simp] theorem State.putClassEntry_door (c : Nat) (e : ClassEntry) : (s.putClassEntry c e).door = s.door := rfl
@[simp] theorem State.putClassEntry_guard (c : Nat) (e : ClassEntry) : (s.putClassEntry c e).guard = s.guard := rfl
@[simp] theorem State.putClassEntry_call (c : Nat) (e : ClassEntry) : (s.putClassEntry c e).call = s.call := rfl
@[simp] theorem State.putClassEntry_sign (c : Nat) (e : ClassEntry) : (s.putClassEntry c e).sign = s.sign := rfl
@[simp] theorem State.putClassEntry_order (c : Nat) (e : ClassEntry) : (s.putClassEntry c e).order = s.order := rfl

/-! ### State.putDoorEntry -/

@[simp] theorem State.putDoorEntry_pending (d : Nat) (e : DoorEntry) : (s.putDoorEntry d e).pending = s.pending := rfl
@[simp] theorem State.putDoorEntry_clock (d : Nat) (e : DoorEntry) : (s.putDoorEntry d e).clock = s.clock := rfl
@[simp] theorem State.putDoorEntry_port (d : Nat) (e : DoorEntry) : (s.putDoorEntry d e).port = s.port := rfl
@[simp] theorem State.putDoorEntry_sup (d : Nat) (e : DoorEntry) : (s.putDoorEntry d e).sup = s.sup := rfl
@[simp] theorem State.putDoorEntry_det (d : Nat) (e : DoorEntry) : (s.putDoorEntry d e).det = s.det := rfl
@[simp] theorem State.putDoorEntry_zone (d : Nat) (e : DoorEntry) : (s.putDoorEntry d e).zone = s.zone := rfl
@[simp] theorem State.putDoorEntry_door (d : Nat) (e : DoorEntry) : (s.putDoorEntry d e).door = s.door := rfl
@[simp] theorem State.putDoorEntry_guard (d : Nat) (e : DoorEntry) : (s.putDoorEntry d e).guard = s.guard := rfl
@[simp] theorem State.putDoorEntry_call (d : Nat) (e : DoorEntry) : (s.putDoorEntry d e).call = s.call := rfl
@[simp] theorem State.putDoorEntry_sign (d : Nat) (e : DoorEntry) : (s.putDoorEntry d e).sign = s.sign := rfl
@[simp] theorem State.putDoorEntry_order (d : Nat) (e : DoorEntry) : (s.putDoorEntry d e).order = s.order := rfl

/-! ### State.putSignEntry -/

@[simp] theorem State.putSignEntry_pending (n : Nat) (e : SignEntry) : (s.putSignEntry n e).pending = s.pending := rfl
@[simp] theorem State.putSignEntry_clock (n : Nat) (e : SignEntry) : (s.putSignEntry n e).clock = s.clock := rfl
@[simp] theorem State.putSignEntry_port (n : Nat) (e : SignEntry) : (s.putSignEntry n e).port = s.port := rfl
@[simp] theorem State.putSignEntry_sup (n : Nat) (e : SignEntry) : (s.putSignEntry n e).sup = s.sup := rfl
@[simp] theorem State.putSignEntry_det (n : Nat) (e : SignEntry) : (s.putSignEntry n e).det = s.det := rfl
@[simp] theorem State.putSignEntry_zone (n : Nat) (e : SignEntry) : (s.putSignEntry n e).zone = s.zone := rfl
@[simp] theorem State.putSignEntry_door (n : Nat) (e : SignEntry) : (s.putSignEntry n e).door = s.door := rfl
@[simp] theorem State.putSignEntry_guard (n : Nat) (e : SignEntry) : (s.putSignEntry n e).guard = s.guard := rfl
@[simp] theorem State.putSignEntry_call (n : Nat) (e : SignEntry) : (s.putSignEntry n e).call = s.call := rfl
@[simp] theorem State.putSignEntry_sign (n : Nat) (e : SignEntry) : (s.putSignEntry n e).sign = s.sign := rfl
@[simp] theorem State.putSignEntry_order (n : Nat) (e : SignEntry) : (s.putSignEntry n e).order = s.order := rfl

/-! ### State.putDevice -/

@[simp] theorem State.putDevice_pending (d : Nat) (r : DeviceRecord) : (s.putDevice d r).pending = s.pending := rfl
@[simp] theorem State.putDevice_clock (d : Nat) (r : DeviceRecord) : (s.putDevice d r).clock = s.clock := rfl
@[simp] theorem State.putDevice_port (d : Nat) (r : DeviceRecord) : (s.putDevice d r).port = s.port := rfl
@[simp] theorem State.putDevice_det (d : Nat) (r : DeviceRecord) : (s.putDevice d r).det = s.det := rfl
@[simp] theorem State.putDevice_zone (d : Nat) (r : DeviceRecord) : (s.putDevice d r).zone = s.zone := rfl
@[simp] theorem State.putDevice_door (d : Nat) (r : DeviceRecord) : (s.putDevice d r).door = s.door := rfl
@[simp] theorem State.putDevice_guard (d : Nat) (r : DeviceRecord) : (s.putDevice d r).guard = s.guard := rfl
@[simp] theorem State.putDevice_call (d : Nat) (r : DeviceRecord) : (s.putDevice d r).call = s.call := rfl
@[simp] theorem State.putDevice_sign (d : Nat) (r : DeviceRecord) : (s.putDevice d r).sign = s.sign := rfl
@[simp] theorem State.putDevice_order (d : Nat) (r : DeviceRecord) : (s.putDevice d r).order = s.order := rfl
@[simp] theorem State.putDevice_mgmt (d : Nat) (r : DeviceRecord) : (s.putDevice d r).mgmt = s.mgmt := rfl

/-! ### State.putDetector -/

@[simp] theorem State.putDetector_pending (d : Nat) (r : Option Detector) : (s.putDetector d r).pending = s.pending := rfl
@[simp] theorem State.putDetector_clock (d : Nat) (r : Option Detector) : (s.putDetector d r).clock = s.clock := rfl
@[simp] theorem State.putDetector_port (d : Nat) (r : Option Detector) : (s.putDetector d r).port = s.port := rfl
@[simp] theorem State.putDetector_sup (d : Nat) (r : Option Detector) : (s.putDetector d r).sup = s.sup := rfl
@[simp] theorem State.putDetector_zone (d : Nat) (r : Option Detector) : (s.putDetector d r).zone = s.zone := rfl
@[simp] theorem State.putDetector_door (d : Nat) (r : Option Detector) : (s.putDetector d r).door = s.door := rfl
@[simp] theorem State.putDetector_guard (d : Nat) (r : Option Detector) : (s.putDetector d r).guard = s.guard := rfl
@[simp] theorem State.putDetector_call (d : Nat) (r : Option Detector) : (s.putDetector d r).call = s.call := rfl
@[simp] theorem State.putDetector_sign (d : Nat) (r : Option Detector) : (s.putDetector d r).sign = s.sign := rfl
@[simp] theorem State.putDetector_order (d : Nat) (r : Option Detector) : (s.putDetector d r).order = s.order := rfl
@[simp] theorem State.putDetector_mgmt (d : Nat) (r : Option Detector) : (s.putDetector d r).mgmt = s.mgmt := rfl

/-! ### State.putZone -/

@[simp] theorem State.putZone_pending (z : Nat) (r : ZoneRecord) : (s.putZone z r).pending = s.pending := rfl
@[simp] theorem State.putZone_clock (z : Nat) (r : ZoneRecord) : (s.putZone z r).clock = s.clock := rfl
@[simp] theorem State.putZone_port (z : Nat) (r : ZoneRecord) : (s.putZone z r).port = s.port := rfl
@[simp] theorem State.putZone_sup (z : Nat) (r : ZoneRecord) : (s.putZone z r).sup = s.sup := rfl
@[simp] theorem State.putZone_det (z : Nat) (r : ZoneRecord) : (s.putZone z r).det = s.det := rfl
@[simp] theorem State.putZone_door (z : Nat) (r : ZoneRecord) : (s.putZone z r).door = s.door := rfl
@[simp] theorem State.putZone_guard (z : Nat) (r : ZoneRecord) : (s.putZone z r).guard = s.guard := rfl
@[simp] theorem State.putZone_call (z : Nat) (r : ZoneRecord) : (s.putZone z r).call = s.call := rfl
@[simp] theorem State.putZone_sign (z : Nat) (r : ZoneRecord) : (s.putZone z r).sign = s.sign := rfl
@[simp] theorem State.putZone_order (z : Nat) (r : ZoneRecord) : (s.putZone z r).order = s.order := rfl
@[simp] theorem State.putZone_mgmt (z : Nat) (r : ZoneRecord) : (s.putZone z r).mgmt = s.mgmt := rfl

/-! ### State.putActivated -/

@[simp] theorem State.putActivated_pending (d : Nat) (b : Bool) : (s.putActivated d b).pending = s.pending := rfl
@[simp] theorem State.putActivated_clock (d : Nat) (b : Bool) : (s.putActivated d b).clock = s.clock := rfl
@[simp] theorem State.putActivated_port (d : Nat) (b : Bool) : (s.putActivated d b).port = s.port := rfl
@[simp] theorem State.putActivated_sup (d : Nat) (b : Bool) : (s.putActivated d b).sup = s.sup := rfl
@[simp] theorem State.putActivated_det (d : Nat) (b : Bool) : (s.putActivated d b).det = s.det := rfl
@[simp] theorem State.putActivated_door (d : Nat) (b : Bool) : (s.putActivated d b).door = s.door := rfl
@[simp] theorem State.putActivated_guard (d : Nat) (b : Bool) : (s.putActivated d b).guard = s.guard := rfl
@[simp] theorem State.putActivated_call (d : Nat) (b : Bool) : (s.putActivated d b).call = s.call := rfl
@[simp] theorem State.putActivated_sign (d : Nat) (b : Bool) : (s.putActivated d b).sign = s.sign := rfl
@[simp] theorem State.putActivated_order (d : Nat) (b : Bool) : (s.putActivated d b).order = s.order := rfl
@[simp] theorem State.putActivated_mgmt (d : Nat) (b : Bool) : (s.putActivated d b).mgmt = s.mgmt := rfl

/-! ### State.putDoor -/

@[simp] theorem State.putDoor_pending (d : Nat) (r : DoorRecord) : (s.putDoor d r).pending = s.pending := rfl
@[simp] theorem State.putDoor_clock (d : Nat) (r : DoorRecord) : (s.putDoor d r).clock = s.clock := rfl
@[simp] theorem State.putDoor_port (d : Nat) (r : DoorRecord) : (s.putDoor d r).port = s.port := rfl
@[simp] theorem State.putDoor_sup (d : Nat) (r : DoorRecord) : (s.putDoor d r).sup = s.sup := rfl
@[simp] theorem State.putDoor_det (d : Nat) (r : DoorRecord) : (s.putDoor d r).det = s.det := rfl
@[simp] theorem State.putDoor_zone (d : Nat) (r : DoorRecord) : (s.putDoor d r).zone = s.zone := rfl
@[simp] theorem State.putDoor_guard (d : Nat) (r : DoorRecord) : (s.putDoor d r).guard = s.guard := rfl
@[simp] theorem State.putDoor_call (d : Nat) (r : DoorRecord) : (s.putDoor d r).call = s.call := rfl
@[simp] theorem State.putDoor_sign (d : Nat) (r : DoorRecord) : (s.putDoor d r).sign = s.sign := rfl
@[simp] theorem State.putDoor_order (d : Nat) (r : DoorRecord) : (s.putDoor d r).order = s.order := rfl
@[simp] theorem State.putDoor_mgmt (d : Nat) (r : DoorRecord) : (s.putDoor d r).mgmt = s.mgmt := rfl

/-! ### State.putOccupancy -/

@[simp] theorem State.putOccupancy_pending (z : Nat) (o : Occupancy) : (s.putOccupancy z o).pending = s.pending := rfl
@[simp] theorem State.putOccupancy_clock (z : Nat) (o : Occupancy) : (s.putOccupancy z o).clock = s.clock := rfl
@[simp] theorem State.putOccupancy_port (z : Nat) (o : Occupancy) : (s.putOccupancy z o).port = s.port := rfl
@[simp] theorem State.putOccupancy_sup (z : Nat) (o : Occupancy) : (s.putOccupancy z o).sup = s.sup := rfl
@[simp] theorem State.putOccupancy_det (z : Nat) (o : Occupancy) : (s.putOccupancy z o).det = s.det := rfl
@[simp] theorem State.putOccupancy_zone (z : Nat) (o : Occupancy) : (s.putOccupancy z o).zone = s.zone := rfl
@[simp] theorem State.putOccupancy_guard (z : Nat) (o : Occupancy) : (s.putOccupancy z o).guard = s.guard := rfl
@[simp] theorem State.putOccupancy_call (z : Nat) (o : Occupancy) : (s.putOccupancy z o).call = s.call := rfl
@[simp] theorem State.putOccupancy_sign (z : Nat) (o : Occupancy) : (s.putOccupancy z o).sign = s.sign := rfl
@[simp] theorem State.putOccupancy_order (z : Nat) (o : Occupancy) : (s.putOccupancy z o).order = s.order := rfl
@[simp] theorem State.putOccupancy_mgmt (z : Nat) (o : Occupancy) : (s.putOccupancy z o).mgmt = s.mgmt := rfl

/-! ### State.putGuard -/

@[simp] theorem State.putGuard_pending (z : Nat) (r : GuardRecord) : (s.putGuard z r).pending = s.pending := rfl
@[simp] theorem State.putGuard_clock (z : Nat) (r : GuardRecord) : (s.putGuard z r).clock = s.clock := rfl
@[simp] theorem State.putGuard_port (z : Nat) (r : GuardRecord) : (s.putGuard z r).port = s.port := rfl
@[simp] theorem State.putGuard_sup (z : Nat) (r : GuardRecord) : (s.putGuard z r).sup = s.sup := rfl
@[simp] theorem State.putGuard_det (z : Nat) (r : GuardRecord) : (s.putGuard z r).det = s.det := rfl
@[simp] theorem State.putGuard_zone (z : Nat) (r : GuardRecord) : (s.putGuard z r).zone = s.zone := rfl
@[simp] theorem State.putGuard_door (z : Nat) (r : GuardRecord) : (s.putGuard z r).door = s.door := rfl
@[simp] theorem State.putGuard_call (z : Nat) (r : GuardRecord) : (s.putGuard z r).call = s.call := rfl
@[simp] theorem State.putGuard_sign (z : Nat) (r : GuardRecord) : (s.putGuard z r).sign = s.sign := rfl
@[simp] theorem State.putGuard_order (z : Nat) (r : GuardRecord) : (s.putGuard z r).order = s.order := rfl
@[simp] theorem State.putGuard_mgmt (z : Nat) (r : GuardRecord) : (s.putGuard z r).mgmt = s.mgmt := rfl

/-! ### State.putMotion -/

@[simp] theorem State.putMotion_pending (d : Nat) (b : Bool) : (s.putMotion d b).pending = s.pending := rfl
@[simp] theorem State.putMotion_clock (d : Nat) (b : Bool) : (s.putMotion d b).clock = s.clock := rfl
@[simp] theorem State.putMotion_port (d : Nat) (b : Bool) : (s.putMotion d b).port = s.port := rfl
@[simp] theorem State.putMotion_sup (d : Nat) (b : Bool) : (s.putMotion d b).sup = s.sup := rfl
@[simp] theorem State.putMotion_det (d : Nat) (b : Bool) : (s.putMotion d b).det = s.det := rfl
@[simp] theorem State.putMotion_zone (d : Nat) (b : Bool) : (s.putMotion d b).zone = s.zone := rfl
@[simp] theorem State.putMotion_door (d : Nat) (b : Bool) : (s.putMotion d b).door = s.door := rfl
@[simp] theorem State.putMotion_call (d : Nat) (b : Bool) : (s.putMotion d b).call = s.call := rfl
@[simp] theorem State.putMotion_sign (d : Nat) (b : Bool) : (s.putMotion d b).sign = s.sign := rfl
@[simp] theorem State.putMotion_order (d : Nat) (b : Bool) : (s.putMotion d b).order = s.order := rfl
@[simp] theorem State.putMotion_mgmt (d : Nat) (b : Bool) : (s.putMotion d b).mgmt = s.mgmt := rfl

/-! ### State.putSign -/

@[simp] theorem State.putSign_pending (n : Nat) (r : SignRecord) : (s.putSign n r).pending = s.pending := rfl
@[simp] theorem State.putSign_clock (n : Nat) (r : SignRecord) : (s.putSign n r).clock = s.clock := rfl
@[simp] theorem State.putSign_port (n : Nat) (r : SignRecord) : (s.putSign n r).port = s.port := rfl
@[simp] theorem State.putSign_sup (n : Nat) (r : SignRecord) : (s.putSign n r).sup = s.sup := rfl
@[simp] theorem State.putSign_det (n : Nat) (r : SignRecord) : (s.putSign n r).det = s.det := rfl
@[simp] theorem State.putSign_zone (n : Nat) (r : SignRecord) : (s.putSign n r).zone = s.zone := rfl
@[simp] theorem State.putSign_door (n : Nat) (r : SignRecord) : (s.putSign n r).door = s.door := rfl
@[simp] theorem State.putSign_guard (n : Nat) (r : SignRecord) : (s.putSign n r).guard = s.guard := rfl
@[simp] theorem State.putSign_call (n : Nat) (r : SignRecord) : (s.putSign n r).call = s.call := rfl
@[simp] theorem State.putSign_order (n : Nat) (r : SignRecord) : (s.putSign n r).order = s.order := rfl
@[simp] theorem State.putSign_mgmt (n : Nat) (r : SignRecord) : (s.putSign n r).mgmt = s.mgmt := rfl

/-! ### State.putCauses -/

@[simp] theorem State.putCauses_pending (d : Nat) (c : Causes) : (s.putCauses d c).pending = s.pending := rfl
@[simp] theorem State.putCauses_clock (d : Nat) (c : Causes) : (s.putCauses d c).clock = s.clock := rfl
@[simp] theorem State.putCauses_port (d : Nat) (c : Causes) : (s.putCauses d c).port = s.port := rfl
@[simp] theorem State.putCauses_det (d : Nat) (c : Causes) : (s.putCauses d c).det = s.det := rfl
@[simp] theorem State.putCauses_zone (d : Nat) (c : Causes) : (s.putCauses d c).zone = s.zone := rfl
@[simp] theorem State.putCauses_door (d : Nat) (c : Causes) : (s.putCauses d c).door = s.door := rfl
@[simp] theorem State.putCauses_guard (d : Nat) (c : Causes) : (s.putCauses d c).guard = s.guard := rfl
@[simp] theorem State.putCauses_call (d : Nat) (c : Causes) : (s.putCauses d c).call = s.call := rfl
@[simp] theorem State.putCauses_sign (d : Nat) (c : Causes) : (s.putCauses d c).sign = s.sign := rfl
@[simp] theorem State.putCauses_order (d : Nat) (c : Causes) : (s.putCauses d c).order = s.order := rfl
@[simp] theorem State.putCauses_mgmt (d : Nat) (c : Causes) : (s.putCauses d c).mgmt = s.mgmt := rfl

/-! ### State.count -/

@[simp] theorem State.count_pending (c : Counter) : (s.count c).pending = s.pending := rfl
@[simp] theorem State.count_clock (c : Counter) : (s.count c).clock = s.clock := rfl
@[simp] theorem State.count_sup (c : Counter) : (s.count c).sup = s.sup := rfl
@[simp] theorem State.count_det (c : Counter) : (s.count c).det = s.det := rfl
@[simp] theorem State.count_zone (c : Counter) : (s.count c).zone = s.zone := rfl
@[simp] theorem State.count_door (c : Counter) : (s.count c).door = s.door := rfl
@[simp] theorem State.count_guard (c : Counter) : (s.count c).guard = s.guard := rfl
@[simp] theorem State.count_call (c : Counter) : (s.count c).call = s.call := rfl
@[simp] theorem State.count_sign (c : Counter) : (s.count c).sign = s.sign := rfl
@[simp] theorem State.count_order (c : Counter) : (s.count c).order = s.order := rfl
@[simp] theorem State.count_mgmt (c : Counter) : (s.count c).mgmt = s.mgmt := rfl

/-! ### State.notify -/

@[simp] theorem State.notify_pending (n : Notice) : (s.notify n).pending = s.pending := rfl
@[simp] theorem State.notify_clock (n : Notice) : (s.notify n).clock = s.clock := rfl
@[simp] theorem State.notify_sup (n : Notice) : (s.notify n).sup = s.sup := rfl
@[simp] theorem State.notify_det (n : Notice) : (s.notify n).det = s.det := rfl
@[simp] theorem State.notify_zone (n : Notice) : (s.notify n).zone = s.zone := rfl
@[simp] theorem State.notify_door (n : Notice) : (s.notify n).door = s.door := rfl
@[simp] theorem State.notify_guard (n : Notice) : (s.notify n).guard = s.guard := rfl
@[simp] theorem State.notify_call (n : Notice) : (s.notify n).call = s.call := rfl
@[simp] theorem State.notify_sign (n : Notice) : (s.notify n).sign = s.sign := rfl
@[simp] theorem State.notify_order (n : Notice) : (s.notify n).order = s.order := rfl
@[simp] theorem State.notify_mgmt (n : Notice) : (s.notify n).mgmt = s.mgmt := rfl

/-! ### State.putAnswers -/

@[simp] theorem State.putAnswers_pending (p : BackbonePort) (q : AnswerQueue) : (s.putAnswers p q).pending = s.pending := rfl
@[simp] theorem State.putAnswers_clock (p : BackbonePort) (q : AnswerQueue) : (s.putAnswers p q).clock = s.clock := rfl
@[simp] theorem State.putAnswers_sup (p : BackbonePort) (q : AnswerQueue) : (s.putAnswers p q).sup = s.sup := rfl
@[simp] theorem State.putAnswers_det (p : BackbonePort) (q : AnswerQueue) : (s.putAnswers p q).det = s.det := rfl
@[simp] theorem State.putAnswers_zone (p : BackbonePort) (q : AnswerQueue) : (s.putAnswers p q).zone = s.zone := rfl
@[simp] theorem State.putAnswers_door (p : BackbonePort) (q : AnswerQueue) : (s.putAnswers p q).door = s.door := rfl
@[simp] theorem State.putAnswers_guard (p : BackbonePort) (q : AnswerQueue) : (s.putAnswers p q).guard = s.guard := rfl
@[simp] theorem State.putAnswers_call (p : BackbonePort) (q : AnswerQueue) : (s.putAnswers p q).call = s.call := rfl
@[simp] theorem State.putAnswers_sign (p : BackbonePort) (q : AnswerQueue) : (s.putAnswers p q).sign = s.sign := rfl
@[simp] theorem State.putAnswers_order (p : BackbonePort) (q : AnswerQueue) : (s.putAnswers p q).order = s.order := rfl
@[simp] theorem State.putAnswers_mgmt (p : BackbonePort) (q : AnswerQueue) : (s.putAnswers p q).mgmt = s.mgmt := rfl

/-! ### State.reserve -/

@[simp] theorem State.reserve_pending (p : BackbonePort) (r : Reservation) : (s.reserve p r).pending = s.pending := rfl
@[simp] theorem State.reserve_clock (p : BackbonePort) (r : Reservation) : (s.reserve p r).clock = s.clock := rfl
@[simp] theorem State.reserve_sup (p : BackbonePort) (r : Reservation) : (s.reserve p r).sup = s.sup := rfl
@[simp] theorem State.reserve_det (p : BackbonePort) (r : Reservation) : (s.reserve p r).det = s.det := rfl
@[simp] theorem State.reserve_zone (p : BackbonePort) (r : Reservation) : (s.reserve p r).zone = s.zone := rfl
@[simp] theorem State.reserve_door (p : BackbonePort) (r : Reservation) : (s.reserve p r).door = s.door := rfl
@[simp] theorem State.reserve_guard (p : BackbonePort) (r : Reservation) : (s.reserve p r).guard = s.guard := rfl
@[simp] theorem State.reserve_call (p : BackbonePort) (r : Reservation) : (s.reserve p r).call = s.call := rfl
@[simp] theorem State.reserve_sign (p : BackbonePort) (r : Reservation) : (s.reserve p r).sign = s.sign := rfl
@[simp] theorem State.reserve_order (p : BackbonePort) (r : Reservation) : (s.reserve p r).order = s.order := rfl
@[simp] theorem State.reserve_mgmt (p : BackbonePort) (r : Reservation) : (s.reserve p r).mgmt = s.mgmt := rfl

/-! ### State.fill -/

@[simp] theorem State.fill_pending (p : BackbonePort) (r : Reservation) (f : Frame) : (s.fill p r f).pending = s.pending := rfl
@[simp] theorem State.fill_clock (p : BackbonePort) (r : Reservation) (f : Frame) : (s.fill p r f).clock = s.clock := rfl
@[simp] theorem State.fill_sup (p : BackbonePort) (r : Reservation) (f : Frame) : (s.fill p r f).sup = s.sup := rfl
@[simp] theorem State.fill_det (p : BackbonePort) (r : Reservation) (f : Frame) : (s.fill p r f).det = s.det := rfl
@[simp] theorem State.fill_zone (p : BackbonePort) (r : Reservation) (f : Frame) : (s.fill p r f).zone = s.zone := rfl
@[simp] theorem State.fill_door (p : BackbonePort) (r : Reservation) (f : Frame) : (s.fill p r f).door = s.door := rfl
@[simp] theorem State.fill_guard (p : BackbonePort) (r : Reservation) (f : Frame) : (s.fill p r f).guard = s.guard := rfl
@[simp] theorem State.fill_call (p : BackbonePort) (r : Reservation) (f : Frame) : (s.fill p r f).call = s.call := rfl
@[simp] theorem State.fill_sign (p : BackbonePort) (r : Reservation) (f : Frame) : (s.fill p r f).sign = s.sign := rfl
@[simp] theorem State.fill_order (p : BackbonePort) (r : Reservation) (f : Frame) : (s.fill p r f).order = s.order := rfl
@[simp] theorem State.fill_mgmt (p : BackbonePort) (r : Reservation) (f : Frame) : (s.fill p r f).mgmt = s.mgmt := rfl

/-! ### State.putPassQueue -/

@[simp] theorem State.putPassQueue_pending (p : BackbonePort) (q : List Frame) : (s.putPassQueue p q).pending = s.pending := rfl
@[simp] theorem State.putPassQueue_clock (p : BackbonePort) (q : List Frame) : (s.putPassQueue p q).clock = s.clock := rfl
@[simp] theorem State.putPassQueue_sup (p : BackbonePort) (q : List Frame) : (s.putPassQueue p q).sup = s.sup := rfl
@[simp] theorem State.putPassQueue_det (p : BackbonePort) (q : List Frame) : (s.putPassQueue p q).det = s.det := rfl
@[simp] theorem State.putPassQueue_zone (p : BackbonePort) (q : List Frame) : (s.putPassQueue p q).zone = s.zone := rfl
@[simp] theorem State.putPassQueue_door (p : BackbonePort) (q : List Frame) : (s.putPassQueue p q).door = s.door := rfl
@[simp] theorem State.putPassQueue_guard (p : BackbonePort) (q : List Frame) : (s.putPassQueue p q).guard = s.guard := rfl
@[simp] theorem State.putPassQueue_call (p : BackbonePort) (q : List Frame) : (s.putPassQueue p q).call = s.call := rfl
@[simp] theorem State.putPassQueue_sign (p : BackbonePort) (q : List Frame) : (s.putPassQueue p q).sign = s.sign := rfl
@[simp] theorem State.putPassQueue_order (p : BackbonePort) (q : List Frame) : (s.putPassQueue p q).order = s.order := rfl
@[simp] theorem State.putPassQueue_mgmt (p : BackbonePort) (q : List Frame) : (s.putPassQueue p q).mgmt = s.mgmt := rfl

/-! ### State.sendOn -/

@[simp] theorem State.sendOn_pending (p : BackbonePort) (a : ArbiterMark) (f : Frame) : (s.sendOn p a f).pending = s.pending := rfl
@[simp] theorem State.sendOn_clock (p : BackbonePort) (a : ArbiterMark) (f : Frame) : (s.sendOn p a f).clock = s.clock := rfl
@[simp] theorem State.sendOn_sup (p : BackbonePort) (a : ArbiterMark) (f : Frame) : (s.sendOn p a f).sup = s.sup := rfl
@[simp] theorem State.sendOn_det (p : BackbonePort) (a : ArbiterMark) (f : Frame) : (s.sendOn p a f).det = s.det := rfl
@[simp] theorem State.sendOn_zone (p : BackbonePort) (a : ArbiterMark) (f : Frame) : (s.sendOn p a f).zone = s.zone := rfl
@[simp] theorem State.sendOn_door (p : BackbonePort) (a : ArbiterMark) (f : Frame) : (s.sendOn p a f).door = s.door := rfl
@[simp] theorem State.sendOn_guard (p : BackbonePort) (a : ArbiterMark) (f : Frame) : (s.sendOn p a f).guard = s.guard := rfl
@[simp] theorem State.sendOn_call (p : BackbonePort) (a : ArbiterMark) (f : Frame) : (s.sendOn p a f).call = s.call := rfl
@[simp] theorem State.sendOn_sign (p : BackbonePort) (a : ArbiterMark) (f : Frame) : (s.sendOn p a f).sign = s.sign := rfl
@[simp] theorem State.sendOn_order (p : BackbonePort) (a : ArbiterMark) (f : Frame) : (s.sendOn p a f).order = s.order := rfl
@[simp] theorem State.sendOn_mgmt (p : BackbonePort) (a : ArbiterMark) (f : Frame) : (s.sendOn p a f).mgmt = s.mgmt := rfl

/-! ### State.sendField -/

@[simp] theorem State.sendField_pending (f : Frame) : (s.sendField f).pending = s.pending := rfl
@[simp] theorem State.sendField_clock (f : Frame) : (s.sendField f).clock = s.clock := rfl
@[simp] theorem State.sendField_sup (f : Frame) : (s.sendField f).sup = s.sup := rfl
@[simp] theorem State.sendField_det (f : Frame) : (s.sendField f).det = s.det := rfl
@[simp] theorem State.sendField_zone (f : Frame) : (s.sendField f).zone = s.zone := rfl
@[simp] theorem State.sendField_door (f : Frame) : (s.sendField f).door = s.door := rfl
@[simp] theorem State.sendField_guard (f : Frame) : (s.sendField f).guard = s.guard := rfl
@[simp] theorem State.sendField_call (f : Frame) : (s.sendField f).call = s.call := rfl
@[simp] theorem State.sendField_sign (f : Frame) : (s.sendField f).sign = s.sign := rfl
@[simp] theorem State.sendField_order (f : Frame) : (s.sendField f).order = s.order := rfl
@[simp] theorem State.sendField_mgmt (f : Frame) : (s.sendField f).mgmt = s.mgmt := rfl

/-! ### State.putPool -/

@[simp] theorem State.putPool_pending (l : List OrderRecord) : (s.putPool l).pending = s.pending := rfl
@[simp] theorem State.putPool_clock (l : List OrderRecord) : (s.putPool l).clock = s.clock := rfl
@[simp] theorem State.putPool_port (l : List OrderRecord) : (s.putPool l).port = s.port := rfl
@[simp] theorem State.putPool_sup (l : List OrderRecord) : (s.putPool l).sup = s.sup := rfl
@[simp] theorem State.putPool_det (l : List OrderRecord) : (s.putPool l).det = s.det := rfl
@[simp] theorem State.putPool_zone (l : List OrderRecord) : (s.putPool l).zone = s.zone := rfl
@[simp] theorem State.putPool_door (l : List OrderRecord) : (s.putPool l).door = s.door := rfl
@[simp] theorem State.putPool_guard (l : List OrderRecord) : (s.putPool l).guard = s.guard := rfl
@[simp] theorem State.putPool_call (l : List OrderRecord) : (s.putPool l).call = s.call := rfl
@[simp] theorem State.putPool_sign (l : List OrderRecord) : (s.putPool l).sign = s.sign := rfl
@[simp] theorem State.putPool_mgmt (l : List OrderRecord) : (s.putPool l).mgmt = s.mgmt := rfl

/-! ### State.putCalls -/

@[simp] theorem State.putCalls_pending (l : List Call) : (s.putCalls l).pending = s.pending := rfl
@[simp] theorem State.putCalls_clock (l : List Call) : (s.putCalls l).clock = s.clock := rfl
@[simp] theorem State.putCalls_port (l : List Call) : (s.putCalls l).port = s.port := rfl
@[simp] theorem State.putCalls_sup (l : List Call) : (s.putCalls l).sup = s.sup := rfl
@[simp] theorem State.putCalls_det (l : List Call) : (s.putCalls l).det = s.det := rfl
@[simp] theorem State.putCalls_zone (l : List Call) : (s.putCalls l).zone = s.zone := rfl
@[simp] theorem State.putCalls_door (l : List Call) : (s.putCalls l).door = s.door := rfl
@[simp] theorem State.putCalls_guard (l : List Call) : (s.putCalls l).guard = s.guard := rfl
@[simp] theorem State.putCalls_sign (l : List Call) : (s.putCalls l).sign = s.sign := rfl
@[simp] theorem State.putCalls_order (l : List Call) : (s.putCalls l).order = s.order := rfl
@[simp] theorem State.putCalls_mgmt (l : List Call) : (s.putCalls l).mgmt = s.mgmt := rfl

/-! ### State.owe -/

@[simp] theorem State.owe_pending (d : Nat) (b : Bool) : (s.owe d b).pending = s.pending := rfl
@[simp] theorem State.owe_clock (d : Nat) (b : Bool) : (s.owe d b).clock = s.clock := rfl
@[simp] theorem State.owe_port (d : Nat) (b : Bool) : (s.owe d b).port = s.port := rfl
@[simp] theorem State.owe_sup (d : Nat) (b : Bool) : (s.owe d b).sup = s.sup := rfl
@[simp] theorem State.owe_det (d : Nat) (b : Bool) : (s.owe d b).det = s.det := rfl
@[simp] theorem State.owe_zone (d : Nat) (b : Bool) : (s.owe d b).zone = s.zone := rfl
@[simp] theorem State.owe_guard (d : Nat) (b : Bool) : (s.owe d b).guard = s.guard := rfl
@[simp] theorem State.owe_call (d : Nat) (b : Bool) : (s.owe d b).call = s.call := rfl
@[simp] theorem State.owe_sign (d : Nat) (b : Bool) : (s.owe d b).sign = s.sign := rfl
@[simp] theorem State.owe_order (d : Nat) (b : Bool) : (s.owe d b).order = s.order := rfl
@[simp] theorem State.owe_mgmt (d : Nat) (b : Bool) : (s.owe d b).mgmt = s.mgmt := rfl

/-! ### State.oweSign -/

@[simp] theorem State.oweSign_pending (n : Nat) (b : Bool) : (s.oweSign n b).pending = s.pending := rfl
@[simp] theorem State.oweSign_clock (n : Nat) (b : Bool) : (s.oweSign n b).clock = s.clock := rfl
@[simp] theorem State.oweSign_port (n : Nat) (b : Bool) : (s.oweSign n b).port = s.port := rfl
@[simp] theorem State.oweSign_sup (n : Nat) (b : Bool) : (s.oweSign n b).sup = s.sup := rfl
@[simp] theorem State.oweSign_det (n : Nat) (b : Bool) : (s.oweSign n b).det = s.det := rfl
@[simp] theorem State.oweSign_zone (n : Nat) (b : Bool) : (s.oweSign n b).zone = s.zone := rfl
@[simp] theorem State.oweSign_door (n : Nat) (b : Bool) : (s.oweSign n b).door = s.door := rfl
@[simp] theorem State.oweSign_guard (n : Nat) (b : Bool) : (s.oweSign n b).guard = s.guard := rfl
@[simp] theorem State.oweSign_call (n : Nat) (b : Bool) : (s.oweSign n b).call = s.call := rfl
@[simp] theorem State.oweSign_order (n : Nat) (b : Bool) : (s.oweSign n b).order = s.order := rfl
@[simp] theorem State.oweSign_mgmt (n : Nat) (b : Bool) : (s.oweSign n b).mgmt = s.mgmt := rfl

/-! ### State.answer -/

@[simp] theorem State.answer_pending (h : Header) (c : Byte) (r : Result) (x : List Byte) : (s.answer h c r x).pending = s.pending := rfl
@[simp] theorem State.answer_clock (h : Header) (c : Byte) (r : Result) (x : List Byte) : (s.answer h c r x).clock = s.clock := rfl
@[simp] theorem State.answer_sup (h : Header) (c : Byte) (r : Result) (x : List Byte) : (s.answer h c r x).sup = s.sup := rfl
@[simp] theorem State.answer_det (h : Header) (c : Byte) (r : Result) (x : List Byte) : (s.answer h c r x).det = s.det := rfl
@[simp] theorem State.answer_zone (h : Header) (c : Byte) (r : Result) (x : List Byte) : (s.answer h c r x).zone = s.zone := rfl
@[simp] theorem State.answer_door (h : Header) (c : Byte) (r : Result) (x : List Byte) : (s.answer h c r x).door = s.door := rfl
@[simp] theorem State.answer_guard (h : Header) (c : Byte) (r : Result) (x : List Byte) : (s.answer h c r x).guard = s.guard := rfl
@[simp] theorem State.answer_call (h : Header) (c : Byte) (r : Result) (x : List Byte) : (s.answer h c r x).call = s.call := rfl
@[simp] theorem State.answer_sign (h : Header) (c : Byte) (r : Result) (x : List Byte) : (s.answer h c r x).sign = s.sign := rfl
@[simp] theorem State.answer_order (h : Header) (c : Byte) (r : Result) (x : List Byte) : (s.answer h c r x).order = s.order := rfl
@[simp] theorem State.answer_mgmt (h : Header) (c : Byte) (r : Result) (x : List Byte) : (s.answer h c r x).mgmt = s.mgmt := rfl

/-! ### State.taken -/

@[simp] theorem State.taken_pending (h : Header) : (s.taken h).pending = s.pending := rfl
@[simp] theorem State.taken_clock (h : Header) : (s.taken h).clock = s.clock := rfl
@[simp] theorem State.taken_sup (h : Header) : (s.taken h).sup = s.sup := rfl
@[simp] theorem State.taken_det (h : Header) : (s.taken h).det = s.det := rfl
@[simp] theorem State.taken_zone (h : Header) : (s.taken h).zone = s.zone := rfl
@[simp] theorem State.taken_guard (h : Header) : (s.taken h).guard = s.guard := rfl
@[simp] theorem State.taken_call (h : Header) : (s.taken h).call = s.call := rfl
@[simp] theorem State.taken_sign (h : Header) : (s.taken h).sign = s.sign := rfl
@[simp] theorem State.taken_order (h : Header) : (s.taken h).order = s.order := rfl
@[simp] theorem State.taken_mgmt (h : Header) : (s.taken h).mgmt = s.mgmt := rfl
@[simp] theorem State.taken_zoneEntry (h : Header) (z : Nat) : (s.taken h).zoneEntry z = s.zoneEntry z := rfl
@[simp] theorem State.taken_deviceEntry (h : Header) (d : Nat) : (s.taken h).deviceEntry d = s.deviceEntry d := rfl
@[simp] theorem State.taken_classEntry (h : Header) (c : Nat) : (s.taken h).classEntry c = s.classEntry c := rfl
@[simp] theorem State.taken_doorEntry (h : Header) (d : Nat) : (s.taken h).doorEntry d = s.doorEntry d := rfl
@[simp] theorem State.taken_signEntry (h : Header) (n : Nat) : (s.taken h).signEntry n = s.signEntry n := rfl
@[simp] theorem State.taken_device (h : Header) (d : Nat) : (s.taken h).device d = s.device d := rfl
@[simp] theorem State.taken_detector (h : Header) (d : Nat) : (s.taken h).detector d = s.detector d := rfl
@[simp] theorem State.taken_zoneRecord (h : Header) (z : Nat) : (s.taken h).zoneRecord z = s.zoneRecord z := rfl
@[simp] theorem State.taken_activatedFlag (h : Header) (d : Nat) : (s.taken h).activatedFlag d = s.activatedFlag d := rfl
@[simp] theorem State.taken_doorRecord (h : Header) (d : Nat) : (s.taken h).doorRecord d = s.doorRecord d := rfl
@[simp] theorem State.taken_occupancy (h : Header) (z : Nat) : (s.taken h).occupancy z = s.occupancy z := rfl
@[simp] theorem State.taken_guardRecord (h : Header) (z : Nat) : (s.taken h).guardRecord z = s.guardRecord z := rfl
@[simp] theorem State.taken_motionFlag (h : Header) (d : Nat) : (s.taken h).motionFlag d = s.motionFlag d := rfl
@[simp] theorem State.taken_signRecord (h : Header) (n : Nat) : (s.taken h).signRecord n = s.signRecord n := rfl
@[simp] theorem State.taken_fireState (h : Header) (z : Nat) : (s.taken h).fireState z = s.fireState z := rfl
@[simp] theorem State.taken_counted (h : Header) (z : Nat) : (s.taken h).counted z = s.counted z := rfl
@[simp] theorem State.taken_occupancyMark (h : Header) (z : Nat) : (s.taken h).occupancyMark z = s.occupancyMark z := rfl
@[simp] theorem State.taken_firstOpenDoor (h : Header) (z : Nat) : (s.taken h).firstOpenDoor z = s.firstOpenDoor z := rfl
@[simp] theorem State.taken_armingCheck (h : Header) (z : Nat) : (s.taken h).armingCheck z = s.armingCheck z := rfl
@[simp] theorem State.taken_fireStands (h : Header) (z : Nat) : (s.taken h).fireStands z = s.fireStands z := rfl
@[simp] theorem State.taken_liveCall (h : Header) (n : Nat) : (s.taken h).liveCall n = s.liveCall n := rfl
@[simp] theorem State.taken_running (h : Header)  : (s.taken h).running  = s.running  := rfl
@[simp] theorem State.taken_stationNumber (h : Header)  : (s.taken h).stationNumber  = s.stationNumber  := rfl
@[simp] theorem State.taken_alarmDetectors (h : Header) (z : Nat) : (s.taken h).alarmDetectors z = s.alarmDetectors z := rfl
@[simp] theorem State.taken_timer (h : Header) (n : Nat) : (s.taken h).timer n = s.timer n := rfl
@[simp] theorem State.taken_entryBytes (h : Header) (t : Table) (i : Nat) : (s.taken h).entryBytes t i = s.entryBytes t i := rfl
@[simp] theorem State.taken_permit (h : Header) : (s.taken h).door.permit = none := rfl

end Sys2Proof.Machine
end

