-- ==== Sys2Proof/Laws/Records.lean ====
section
/-! SUPPORT. Slots of tables, and each record read back after it is written. -/

namespace Sys2Proof.Machine

/-! ### Slots -/

/-- A slot after a write: the new value at its own place inside the table, the old value elsewhere. -/
theorem slot_place {α : Type} {n : Nat} (v : Vector α n) (i j : Nat) (x d : α) :
    slot (place v i x) j d = if i = j ∧ i < n then x else slot v j d := by
  unfold slot place
  by_cases h : i = j
  · subst h
    by_cases hn : i < n
    · simp [hn]
    · simp [hn]
  · simp [h, Vector.getElem?_setIfInBounds_ne h]

/-- A slot read at the place of a write inside the table. -/
theorem slot_place_self {α : Type} {n : Nat} (v : Vector α n) (i : Nat) (x d : α) (h : i < n) :
    slot (place v i x) i d = x := by simp [slot_place, h]

/-- A slot read away from a write. -/
theorem slot_place_ne {α : Type} {n : Nat} (v : Vector α n) {i j : Nat} (x d : α) (h : i ≠ j) :
    slot (place v i x) j d = slot v j d := by simp [slot_place, h]

/-- A slot outside its table reads as the default. -/
theorem slot_outside {α : Type} {n : Nat} (v : Vector α n) (i : Nat) (d : α) (h : n ≤ i) : slot v i d = d := by
  simp [slot, Vector.getElem?_eq_none h]

/-- A slot of a mapped table. -/
theorem slot_map {α β : Type} {n : Nat} (v : Vector α n) (f : α → β) (i : Nat) (d : α) (e : β) (h : i < n) :
    slot (v.map f) i e = f (slot v i d) := by simp [slot, h]

/-! ### Records -/

variable (s : State)

theorem State.putZone_zoneRecord (z w : Nat) (r : ZoneRecord) :
    (s.putZone z r).zoneRecord w = if z = w ∧ z < 25 then r else s.zoneRecord w := slot_place ..

theorem State.putGuard_guardRecord (z w : Nat) (r : GuardRecord) :
    (s.putGuard z r).guardRecord w = if z = w ∧ z < 25 then r else s.guardRecord w := slot_place ..

theorem State.putDoor_doorRecord (d e : Nat) (r : DoorRecord) :
    (s.putDoor d r).doorRecord e = if d = e ∧ d < 32 then r else s.doorRecord e := slot_place ..

theorem State.putOccupancy_occupancy (z w : Nat) (o : Occupancy) :
    (s.putOccupancy z o).occupancy w = if z = w ∧ z < 25 then o else s.occupancy w := slot_place ..

theorem State.putSign_signRecord (n m : Nat) (r : SignRecord) :
    (s.putSign n r).signRecord m = if n = m ∧ n < 48 then r else s.signRecord m := slot_place ..

theorem State.putDevice_device (d e : Nat) (r : DeviceRecord) :
    (s.putDevice d r).device e = if d = e ∧ d < 127 then r else s.device e := slot_place ..

theorem State.putDetector_detector (d e : Nat) (r : Option Detector) :
    (s.putDetector d r).detector e = if d = e ∧ d < 127 then r else s.detector e := slot_place ..

theorem State.putActivated_activatedFlag (d e : Nat) (b : Bool) :
    (s.putActivated d b).activatedFlag e = if d = e ∧ d < 127 then b else s.activatedFlag e := slot_place ..

theorem State.putMotion_motionFlag (d e : Nat) (b : Bool) :
    (s.putMotion d b).motionFlag e = if d = e ∧ d < 127 then b else s.motionFlag e := slot_place ..

theorem State.putZoneEntry_zoneEntry (z w : Nat) (e : ZoneEntry) :
    (s.putZoneEntry z e).zoneEntry w = if z = w ∧ z < 25 then e else s.zoneEntry w := slot_place ..

theorem State.putDeviceEntry_deviceEntry (d x : Nat) (e : DeviceEntry) :
    (s.putDeviceEntry d e).deviceEntry x = if d = x ∧ d < 127 then e else s.deviceEntry x := slot_place ..

theorem State.putClassEntry_classEntry (c x : Nat) (e : ClassEntry) :
    (s.putClassEntry c e).classEntry x = if c = x ∧ c < 8 then e else s.classEntry x := slot_place ..

theorem State.putDoorEntry_doorEntry (d x : Nat) (e : DoorEntry) :
    (s.putDoorEntry d e).doorEntry x = if d = x ∧ d < 32 then e else s.doorEntry x := slot_place ..

theorem State.putSignEntry_signEntry (n x : Nat) (e : SignEntry) :
    (s.putSignEntry n e).signEntry x = if n = x ∧ n < 48 then e else s.signEntry x := slot_place ..

/-- A counter after an event is counted (R160). -/
theorem State.count_counter (c x : Counter) :
    (s.count c).counter x = if c = x then countUp Config.counterTop (s.counter c) else s.counter x := by
  have inj : c.index = x.index ↔ c = x := by cases c <;> cases x <;> decide
  have lt : c.index < 17 := by cases c <;> decide
  show slot (place s.port.counters c.index _) x.index 0 = _
  rw [slot_place]
  simp only [inj, lt, and_true]
  rfl

end Sys2Proof.Machine
end

