-- ==== Sys2Proof/Laws/Orders.lean ====
section
/-! SUPPORT. What the operations of the Order Unit can do: the chain under an insertion, a replacement and a launch, the
cases of a request, and the frame of every operation that requests or serves orders. -/

namespace Sys2Proof.Machine

/-! ### The chain -/

/-- An insertion adds its record and moves no other (R134). -/
theorem insertTail_perm (r : OrderRecord) (l : List OrderRecord) : (insertTail r l).Perm (r :: l) := by
  induction l with
  | nil => exact .refl _
  | cons x rest ih =>
    unfold insertTail
    split
    · exact .refl _
    · exact (ih.cons x).trans (.swap r x rest)

/-- An insertion keeps a chain in class order (R134). -/
theorem insertTail_sorted (r : OrderRecord) {l : List OrderRecord} (h : l.Pairwise fun a b => a.cls ≤ b.cls) :
    (insertTail r l).Pairwise fun a b => a.cls ≤ b.cls := by
  induction l with
  | nil => simp [insertTail]
  | cons x rest ih =>
    obtain ⟨hx, hr⟩ := List.pairwise_cons.mp h
    unfold insertTail
    split
    · rename_i hlt
      refine List.pairwise_cons.mpr ⟨fun y hy => ?_, h⟩
      rcases List.mem_cons.mp hy with rfl | hy
      · omega
      · have := hx y hy; omega
    · rename_i hge
      refine List.pairwise_cons.mpr ⟨fun y hy => ?_, ih hr⟩
      rcases List.mem_cons.mp ((insertTail_perm r rest).mem_iff.mp hy) with rfl | hy
      · omega
      · exact hx y hy

/-- A replacement puts its record in the place of the first that satisfies the test. -/
theorem replaceFirst_append {α : Type} {p : α → Bool} {pre post : List α} {x y : α} (hpre : ∀ a ∈ pre, p a = false)
    (hx : p x = true) : replaceFirst p y (pre ++ x :: post) = pre ++ y :: post := by
  induction pre with
  | nil => simp [replaceFirst, hx]
  | cons a rest ih =>
    have ha : p a = false := hpre a (by simp)
    simp [replaceFirst, ha, ih fun b hb => hpre b (by simp [hb])]

/-- A launch sends the first sendable record, with its tag given if it had none, and leaves every other as it is
(R139). -/
theorem launch_some {halt : Bool} {tag : Nat} {l pool : List OrderRecord} {r : OrderRecord}
    (h : launch halt tag l = some (r, pool)) :
    ∃ pre post, l = pre ++ r :: post ∧ (∀ x ∈ pre, sendable halt x = false) ∧ sendable halt r = true
      ∧ pool = pre ++ r.launched tag :: post := by
  induction l generalizing pool with
  | nil => simp [launch] at h
  | cons x rest ih =>
    unfold launch at h
    split at h
    · rename_i hs
      simp only [Option.some.injEq, Prod.mk.injEq] at h
      obtain ⟨rfl, rfl⟩ := h
      exact ⟨[], rest, rfl, by simp, hs, rfl⟩
    · rename_i hs
      cases hl : launch halt tag rest with
      | none => simp [hl] at h
      | some y =>
        simp only [hl, Option.map_some, Option.some.injEq, Prod.mk.injEq] at h
        obtain ⟨rfl, rfl⟩ := h
        obtain ⟨pre, post, rfl, hp, hr, hy⟩ := ih hl
        refine ⟨x :: pre, post, rfl, ?_, hr, by rw [hy]; rfl⟩
        intro y' hy
        rcases List.mem_cons.mp hy with rfl | hy
        · simpa using hs
        · exact hp _ hy

/-- Nothing is launched when no record is sendable (R139, R143). -/
theorem launch_none {halt : Bool} {tag : Nat} {l : List OrderRecord} :
    launch halt tag l = none ↔ ∀ x ∈ l, sendable halt x = false := by
  induction l with
  | nil => simp [launch]
  | cons x rest ih =>
    unfold launch
    by_cases hs : sendable halt x = true
    · simp [hs]
    · simp only [hs, Bool.false_eq_true, if_false, Option.map_eq_none_iff, ih, List.mem_cons, forall_eq_or_imp]
      simp

/-- The cases of a request: no waiting record and no room; no waiting record and a new one at the tail of its class; or a
waiting record brought up to date (R135, R136). -/
theorem takeRequest_cases (q : OrderRequest) (pool : List OrderRecord) :
    (pool.find? q.finds = none ∧ roomFor pool q.cls = false ∧ takeRequest q pool = none)
      ∨ (pool.find? q.finds = none ∧ roomFor pool q.cls = true
        ∧ takeRequest q pool = some (insertTail q.record pool, false))
      ∨ ∃ r, pool.find? q.finds = some r ∧ takeRequest q pool = some (bringUpToDate q r pool) := by
  unfold takeRequest
  cases pool.find? q.finds with
  | some r => exact .inr (.inr ⟨r, rfl, rfl⟩)
  | none =>
    cases hr : roomFor pool q.cls
    · exact .inl ⟨rfl, rfl, by simp⟩
    · exact .inr (.inl ⟨rfl, rfl, by simp⟩)

/-! ### The frame of orders -/

/-- From `s` to `t` nothing changes but the pool, the tag counter and the confirmation timer, the owed marks of doors and
signs, and the field output line. -/
structure OrdersOnly (s t : State) : Prop where
  pending : t.pending = s.pending
  clock : t.clock = s.clock
  port : ∃ line, t.port = { s.port with lineF := line }
  sup : t.sup = s.sup
  det : t.det = s.det
  zone : t.zone = s.zone
  permit : t.door.permit = s.door.permit
  occupancy : t.door.occupancy = s.door.occupancy
  doors : ∀ d, ∃ b, t.doorRecord d = { s.doorRecord d with owed := b }
  guard : t.guard = s.guard
  call : t.call = s.call
  pass : t.sign.pass = s.sign.pass
  repeatMark : t.sign.repeatMark = s.sign.repeatMark
  signs : ∀ n, ∃ b, t.signRecord n = { s.signRecord n with owed := b }
  halt : t.order.halt = s.order.halt
  mgmt : t.mgmt = s.mgmt

theorem OrdersOnly.refl (s : State) : OrdersOnly s s where
  pending := rfl
  clock := rfl
  port := ⟨_, rfl⟩
  sup := rfl
  det := rfl
  zone := rfl
  permit := rfl
  occupancy := rfl
  doors d := ⟨(s.doorRecord d).owed, rfl⟩
  guard := rfl
  call := rfl
  pass := rfl
  repeatMark := rfl
  signs n := ⟨(s.signRecord n).owed, rfl⟩
  halt := rfl
  mgmt := rfl

theorem OrdersOnly.trans {s t u : State} (a : OrdersOnly s t) (b : OrdersOnly t u) : OrdersOnly s u where
  pending := b.pending.trans a.pending
  clock := b.clock.trans a.clock
  port := by
    obtain ⟨l, hl⟩ := a.port
    obtain ⟨m, hm⟩ := b.port
    exact ⟨m, by rw [hm, hl]⟩
  sup := b.sup.trans a.sup
  det := b.det.trans a.det
  zone := b.zone.trans a.zone
  permit := b.permit.trans a.permit
  occupancy := b.occupancy.trans a.occupancy
  doors d := by
    obtain ⟨x, hx⟩ := a.doors d
    obtain ⟨y, hy⟩ := b.doors d
    exact ⟨y, by rw [hy, hx]⟩
  guard := b.guard.trans a.guard
  call := b.call.trans a.call
  pass := b.pass.trans a.pass
  repeatMark := b.repeatMark.trans a.repeatMark
  signs n := by
    obtain ⟨x, hx⟩ := a.signs n
    obtain ⟨y, hy⟩ := b.signs n
    exact ⟨y, by rw [hy, hx]⟩
  halt := b.halt.trans a.halt
  mgmt := b.mgmt.trans a.mgmt

variable (s : State)

theorem putPool_only (pool : List OrderRecord) : OrdersOnly s (s.putPool pool) where
  pending := rfl
  clock := rfl
  port := ⟨_, rfl⟩
  sup := rfl
  det := rfl
  zone := rfl
  permit := rfl
  occupancy := rfl
  doors d := ⟨(s.doorRecord d).owed, rfl⟩
  guard := rfl
  call := rfl
  pass := rfl
  repeatMark := rfl
  signs n := ⟨(s.signRecord n).owed, rfl⟩
  halt := rfl
  mgmt := rfl

theorem owe_only (d : Nat) (b : Bool) : OrdersOnly s (s.owe d b) where
  pending := rfl
  clock := rfl
  port := ⟨_, rfl⟩
  sup := rfl
  det := rfl
  zone := rfl
  permit := rfl
  occupancy := rfl
  doors e := by
    unfold State.owe
    rw [State.putDoor_doorRecord]
    split
    · rename_i h; exact ⟨b, by rw [h.1]⟩
    · exact ⟨(s.doorRecord e).owed, rfl⟩
  guard := rfl
  call := rfl
  pass := rfl
  repeatMark := rfl
  signs n := ⟨(s.signRecord n).owed, rfl⟩
  halt := rfl
  mgmt := rfl

theorem oweSign_only (n : Nat) (b : Bool) : OrdersOnly s (s.oweSign n b) where
  pending := rfl
  clock := rfl
  port := ⟨_, rfl⟩
  sup := rfl
  det := rfl
  zone := rfl
  permit := rfl
  occupancy := rfl
  doors d := ⟨(s.doorRecord d).owed, rfl⟩
  guard := rfl
  call := rfl
  pass := rfl
  repeatMark := rfl
  signs m := by
    unfold State.oweSign
    rw [State.putSign_signRecord]
    split
    · rename_i h; exact ⟨b, by rw [h.1]⟩
    · exact ⟨(s.signRecord m).owed, rfl⟩
  halt := rfl
  mgmt := rfl

/-- A look for a send sends at most one record (R139). -/
theorem lookForSend_only : OrdersOnly s s.lookForSend := by
  unfold State.lookForSend
  split
  · exact .refl s
  · split
    · exact .refl s
    · exact {
        pending := rfl
        clock := rfl
        port := ⟨_, rfl⟩
        sup := rfl
        det := rfl
        zone := rfl
        permit := rfl
        occupancy := rfl
        doors := fun d => ⟨(s.doorRecord d).owed, rfl⟩
        guard := rfl
        call := rfl
        pass := rfl
        repeatMark := rfl
        signs := fun n => ⟨(s.signRecord n).owed, rfl⟩
        halt := rfl
        mgmt := rfl }

/-- The visit of a service to one door (R137). -/
theorem serveDoor_only (d : Nat) : OrdersOnly s (serveDoor s d).1 := by
  unfold serveDoor
  split
  · exact .refl s
  split
  · exact owe_only s d false
  split
  · exact .refl s
  split
  · exact (putPool_only s _).trans (owe_only _ d false)
  · exact .refl s

/-- The visit of a service to one sign (R137). -/
theorem serveSign_only (n : Nat) : OrdersOnly s (serveSign s n).1 := by
  unfold serveSign
  split
  · exact .refl s
  split
  · exact oweSign_only s n false
  split
  · exact .refl s
  split
  · exact (putPool_only s _).trans (oweSign_only _ n false)
  · exact .refl s

/-- A fold of visits that each keep the frame keeps it. -/
theorem foldl_only (visit : State → Nat → State × Bool) (h : ∀ t i, OrdersOnly t (visit t i).1) (l : List Nat)
    (x : State × Bool) :
    OrdersOnly x.1 (l.foldl (fun x i => let y := visit x.1 i; (y.1, x.2 || y.2)) x).1 := by
  induction l generalizing x with
  | nil => exact .refl _
  | cons i rest ih => exact (h x.1 i).trans (ih ((visit x.1 i).1, x.2 || (visit x.1 i).2))

theorem serveRound_only : OrdersOnly s (serveRound s).1 :=
  (foldl_only serveDoor serveDoor_only doorNumbers (s, false)).trans
    (foldl_only serveSign serveSign_only signNumbers _)

theorem serveRounds_only (k : Nat) : OrdersOnly s (serveRounds k s) := by
  induction k generalizing s with
  | zero => exact .refl s
  | succ k ih =>
    simp only [serveRounds]
    split
    · exact (serveRound_only s).trans (ih _)
    · exact serveRound_only s

/-- A service followed by a look for a send (R137, R139). -/
theorem serve_only : OrdersOnly s s.serve := (serveRounds_only s 81).trans (lookForSend_only _)

/-- A request, taken or not (R135). -/
theorem request_only (q : OrderRequest) : OrdersOnly s (s.request q).1 := by
  unfold State.request
  split
  · rename_i pool rose _
    refine OrdersOnly.trans (t := s.putPool pool) (putPool_only s pool) ?_
    dsimp only
    split
    · exact serve_only _
    · exact lookForSend_only _
  · exact .refl s

/-- A request for a door's desired setting (R62). -/
theorem requestDoor_only (d : Nat) : OrdersOnly s (s.requestDoor d) := by
  unfold State.requestDoor
  dsimp only
  split
  · refine (serveDoor_only s d).trans ?_
    split
    · exact serve_only _
    split
    · exact .refl _
    · exact lookForSend_only _
  · refine (request_only s (s.doorNeed d)).trans ?_
    split
    · exact .refl _
    · exact (owe_only _ d true).trans (serve_only _)

/-- A request for a sign's desired display (R124). -/
theorem requestSign_only (n : Nat) : OrdersOnly s (s.requestSign n) := by
  unfold State.requestSign
  dsimp only
  split
  · refine (serveSign_only s n).trans ?_
    split
    · exact serve_only _
    split
    · exact .refl _
    · exact lookForSend_only _
  · refine (request_only s (s.signNeed n)).trans ?_
    split
    · exact .refl _
    · exact (oweSign_only _ n true).trans (serve_only _)

/-- A lamp order, taken or skipped and counted (R104, R138). -/
theorem requestLamp_cases (point : Nat) (l : LampState) :
    ∃ t, OrdersOnly s t ∧ (s.requestLamp point l = t ∨ s.requestLamp point l = t.count .ordersSkipped) := by
  refine ⟨(s.request ⟨point, .lamp l, 1, false⟩).1, request_only s _, ?_⟩
  unfold State.requestLamp
  dsimp only
  split
  · exact .inl rfl
  · exact .inr rfl

/-- A PULSE request, taken or counted (R68, R75, R138). -/
theorem requestPulse_cases (d cls : Nat) :
    ∃ t, OrdersOnly s t
      ∧ (s.requestPulse d cls = (t, true) ∨ s.requestPulse d cls = (t.count .ordersSkipped, false)) := by
  let q : OrderRequest := ⟨(s.doorEntry d).module, .pulse s.mgmt.wing.pulseTime, cls, true⟩
  refine ⟨(s.request q).1, request_only s q, ?_⟩
  unfold State.requestPulse
  dsimp only
  split
  · rename_i h; exact .inl (Prod.ext rfl h)
  · exact .inr rfl

end Sys2Proof.Machine
end

