-- ==== Sys2Proof/Laws/Queues.lean ====
section
/-! SUPPORT. What the answer queues and the notice queue do: an answer reserved and filled, the eviction of an entry, the
lowest priority present. -/

namespace Sys2Proof.Machine

/-! ### Answer queues (R152) -/

variable (s : State)

/-- The other port of the two is another port. -/
theorem otherPort_ne (p : BackbonePort) : otherPort p ≠ p := by cases p <;> decide

/-- An answer queue read after it is written. -/
theorem putAnswers_answers (p x : BackbonePort) (q : AnswerQueue) :
    (s.putAnswers p q).answers x = if p = x then q else s.answers x := by
  cases p <;> cases x <;> rfl

/-- A reserved entry joins the reserved entries of its port. -/
theorem reserve_answers (p x : BackbonePort) (r : Reservation) :
    (s.reserve p r).answers x = if p = x then ⟨r :: (s.answers p).reserved, (s.answers p).ready⟩ else s.answers x := by
  unfold State.reserve
  rw [putAnswers_answers]

/-- A filled entry leaves the reserved entries of its port and becomes its youngest ready one. -/
theorem fill_answers (p x : BackbonePort) (r : Reservation) (f : Frame) :
    (s.fill p r f).answers x =
      if p = x then ⟨(s.answers p).reserved.erase r, (s.answers p).ready ++ [f]⟩ else s.answers x := by
  unfold State.fill
  rw [putAnswers_answers]

/-- An entry reserved and then filled leaves no reservation behind. -/
theorem reserve_fill_answers (p : BackbonePort) (r : Reservation) (f : Frame) :
    ((s.reserve p r).fill p r f).answers p = ⟨(s.answers p).reserved, (s.answers p).ready ++ [f]⟩ := by
  simp [fill_answers, reserve_answers]

/-- A notice leaves the answer queues as they are. -/
theorem notify_answers (n : Notice) (p : BackbonePort) : (s.notify n).answers p = s.answers p := by
  unfold State.notify PortUnit.notify
  cases p <;> dsimp only [State.answers] <;> split <;> first | rfl | (split <;> rfl)

/-- A count leaves the answer queues as they are. -/
theorem count_answers (c : Counter) (p : BackbonePort) : (s.count c).answers p = s.answers p := by cases p <;> rfl

/-! ### The notice queue (R153) -/

/-- The last member that satisfies a test is the one erased. -/
theorem eraseLast_append {α : Type} {p : α → Bool} {pre post : List α} {x : α} (hx : p x = true)
    (hpost : ∀ y ∈ post, p y = false) : eraseLast p (pre ++ x :: post) = pre ++ post := by
  unfold eraseLast
  have hr : ∀ y ∈ post.reverse, ¬p y = true := fun y hy => by simp [hpost y (List.mem_reverse.mp hy)]
  rw [List.reverse_append, List.reverse_cons, List.append_assoc, List.eraseP_append_right _ hr]
  simp [hx]

/-- A fold of maxima is at least its start and every member. -/
theorem foldl_max_le (q : List NoticeEntry) (n : Nat) :
    n ≤ q.foldl (fun (m : Nat) (e : NoticeEntry) => max m e.notice.priority) n
      ∧ ∀ e ∈ q, e.notice.priority ≤ q.foldl (fun (m : Nat) (e : NoticeEntry) => max m e.notice.priority) n := by
  induction q generalizing n with
  | nil => simp
  | cons x rest ih =>
    obtain ⟨h1, h2⟩ := ih (max n x.notice.priority)
    simp only [List.foldl_cons, List.mem_cons, forall_eq_or_imp]
    exact ⟨by omega, by omega, h2⟩

/-- A fold of maxima is its start or the priority of a member. -/
theorem foldl_max_mem (q : List NoticeEntry) (n : Nat) :
    q.foldl (fun (m : Nat) (e : NoticeEntry) => max m e.notice.priority) n = n
      ∨ ∃ e ∈ q, q.foldl (fun (m : Nat) (e : NoticeEntry) => max m e.notice.priority) n = e.notice.priority := by
  induction q generalizing n with
  | nil => simp
  | cons x rest ih =>
    simp only [List.foldl_cons, List.mem_cons, exists_eq_or_imp]
    rcases ih (max n x.notice.priority) with h | ⟨e, he, h⟩
    · rw [h]
      omega
    · exact .inr (.inr ⟨e, he, h⟩)

/-- No entry is of a lower priority than the lowest present. -/
theorem le_lowestPriority {q : List NoticeEntry} {e : NoticeEntry} (h : e ∈ q) : e.notice.priority ≤ lowestPriority q :=
  (foldl_max_le q 0).2 e h

/-- In a queue that is not empty some entry has the lowest priority present. -/
theorem lowestPriority_mem {q : List NoticeEntry} (h : q ≠ []) : ∃ e ∈ q, lowestPriority q = e.notice.priority := by
  rcases foldl_max_mem q 0 with h0 | h1
  · cases q with
    | nil => exact absurd rfl h
    | cons x rest =>
      have := (foldl_max_le (x :: rest) 0).2 x (by simp)
      exact ⟨x, by simp, by unfold lowestPriority; omega⟩
  · exact h1

end Sys2Proof.Machine
end

