-- ==== Sys2Proof/Laws/Requests.lean ====
section
/-! SUPPORT. A SET from its arrival to its ANSWER: what each path through routing, reservation, judging and answering
comes to, so that a statement about a request need not unfold them. -/

namespace Sys2Proof.Machine

variable {s : State} {h : Header} {q : Request}

/-- A frame for this numbered station is taken and not repeated (R148). -/
theorem arrive_own {f : Frame} {taker : State → State} (p : BackbonePort) (hn : s.mgmt.part ≠ .unnumbered)
    (hd : f.destStation = s.stationNumber) (hl : f.payload.length ≤ 48) : s.arrive p f taker = taker s := by
  simp [State.arrive, hn, hd, Config.maxPayload, Nat.not_lt.mpr hl]

/-- The command of a request is the arrival of its SET (R150, R177). -/
theorem exec_command (hq : q.proper) : exec (q.command h) s = proceed (s.arriveSet h q) := by
  cases q <;> first
    | rfl
    | simp only [Request.command, exec, execSetBadRequest, hq _ rfl]

/-- A SET that is taken is judged in its reserved entry and answered (R152, R164). -/
theorem arriveSet_takes (ht : s.takes h) (hl : q.payload.length ≤ 48) :
    s.arriveSet h q =
      (((s.takenBy h q).judge h.srcStation q).1).answerSet h q ((s.takenBy h q).judge h.srcStation q).2 := by
  obtain ⟨hn, hd, h31, hr⟩ := ht
  rw [State.arriveSet, arrive_own h.port hn hd hl]
  simp [State.takeSet, State.handleSet, hn, h31, hr, State.takenBy]

/-- A request other than OPEN-DOOR cancels the permit (R74). -/
theorem takenBy_eq_taken (hq : ∀ d, q ≠ .openDoor d) : s.takenBy h q = s.taken h := by
  cases q <;> first
    | rfl
    | exact absurd rfl (hq _)

/-- The part state is not touched by taking a SET. -/
@[simp] theorem takenBy_mgmt : (s.takenBy h q).mgmt = s.mgmt := by
  unfold State.takenBy State.cancelPermit
  split <;> rfl

/-- A refusal by R164 depends on the part state, the source and the request alone. -/
theorem judge_takes (hn : s.mgmt.part ≠ .unnumbered) :
    (s.takenBy h q).judge h.srcStation q =
      match s.refusal h.srcStation q with
      | some r => (s.takenBy h q, ⟨r, q.refusalExtra⟩)
      | none => (s.takenBy h q).run h.srcStation q := by
  have hr : (s.takenBy h q).refusal h.srcStation q = s.refusal h.srcStation q := by
    simp [State.refusal, State.running]
  cases hc : s.refusal h.srcStation q <;> simp [State.judge, hn, hr, hc]

/-- A request of the right form from station 0 in RUNNING is executed (R164). -/
theorem refusal_admits (ha : s.admits h) (hq : q.badForm = false) : s.refusal h.srcStation q = none := by
  obtain ⟨_, hr, h0⟩ := ha
  simp [State.refusal, hq, hr, h0]

/-- A request of the right form from station 0 in RUNNING: its command executes it in the state that has taken the SET
and answers with the result (R152, R164). -/
theorem exec_admits (ha : s.admits h) (hp : q.proper) (hl : q.payload.length ≤ 48) (hq : q.badForm = false) :
    exec (q.command h) s =
      .next ((((s.takenBy h q).run h.srcStation q).1.answerSet h q
        ((s.takenBy h q).run h.srcStation q).2).beginPass) := by
  rw [exec_command hp, arriveSet_takes ha.1 hl, judge_takes ha.1.1, refusal_admits ha hq]
  rfl

/-- The ANSWER of a reply, in the form the statements use. -/
theorem answerSet_eq (r : Reply) : s.answerSet h q r = s.answer h q.answerCode r.result r.extra := rfl

/-- A request that is no bad payload is as a payload spells it. -/
theorem proper_of_ne (hq : ∀ payload, q ≠ .bad payload) : q.proper := fun payload e => absurd e (hq payload)

/-- From a source other than station 0 a SET always cancels the permit (R74). -/
theorem takenBy_eq_taken_of_source (h0 : h.srcStation ≠ 0#5) : s.takenBy h q = s.taken h := by
  cases q <;> first
    | rfl
    | simp [State.takenBy, State.taken, State.cancelPermit, State.usesPermit, h0]

/-- A request of the right form that station 0 alone may make, taken in RUNNING: DENIED to any other source, and otherwise
executed and answered with its result (R152, R164). -/
theorem exec_running (ht : s.takes h) (hr : s.running = true) (hp : q.proper) (hl : q.payload.length ≤ 48)
    (hb : q.badForm = false) (hf : q.fromAny = false) :
    exec (q.command h) s =
      .next (State.beginPass
        (if h.srcStation ≠ 0#5 then (s.taken h).answer h q.answerCode .denied q.refusalExtra
        else
          ((s.takenBy h q).run h.srcStation q).1.answerSet h q ((s.takenBy h q).run h.srcStation q).2)) := by
  by_cases h0 : h.srcStation = 0#5
  · rw [exec_admits ⟨ht, hr, h0⟩ hp hl hb]
    simp [h0]
  · rw [exec_command hp, arriveSet_takes ht hl, judge_takes ht.1]
    simp [State.refusal, hb, hf, h0, takenBy_eq_taken_of_source h0, answerSet_eq, proceed]

end Sys2Proof.Machine
end

