-- ==== Sys2Proof/WellFormed.lean ====
section
/-! DEFINITION. Well-formed commands: the lengths a frame admits (R147, R175), and the numbers an expiry may name. A
request byte is not restricted, since the spec gives a refusal for every value. -/

namespace Sys2Proof

/-- A number lies in a range, both ends included. -/
def inRange (lo hi n : Nat) : Bool := decide (lo ≤ n) && decide (n ≤ hi)

/-- The bytes after the request code fit a payload. -/
def argsFit (args : List Byte) (before : Nat) : Bool := decide (before + args.length ≤ Config.maxPayload)

/-- A payload fits a frame. -/
def payloadFits (payload : List Byte) : Bool := decide (payload.length ≤ Config.maxPayload)

/-- A command is well formed. -/
def Instr.wellFormed : Instr → Bool
  | .fieldFrame _ => true
  | .backboneFrame _ _ => true
  | .assign _ args => argsFit args 1
  | .loadTable _ _ _ entries => argsFit entries 3
  | .readTable _ _ _ _ => true
  | .readState _ _ _ => true
  | .readCounters _ => true
  | .setMode _ _ => true
  | .restart _ => true
  | .arm _ _ => true
  | .disarm _ _ => true
  | .ackIntrusion _ _ => true
  | .ackDoor _ _ => true
  | .permit _ _ => true
  | .openDoor _ _ => true
  | .resetOccupancy _ _ => true
  | .resetZone _ _ => true
  | .startTest _ _ => true
  | .endTest _ _ => true
  | .evacuate _ => true
  | .standDown _ => true
  | .takeCall _ _ => true
  | .clearCall _ _ => true
  | .setAttention _ _ => true
  | .clearHalt _ => true
  | .setBadRequest _ payload =>
    payloadFits payload && decide (Machine.readRequest payload = Machine.Request.bad payload)
  | .relayedOrder _ payload => payloadFits payload
  | .beat _ payload => payloadFits payload
  | .pause _ payload => payloadFits payload
  | .resume _ payload => payloadFits payload
  | .portOutputGrant _ => true
  | .periodBoundary => true
  | .sweepVisit => true
  | .doubleKnockWindowExpiry zone => inRange 1 24 zone
  | .walkTestTimerExpiry zone => inRange 1 24 zone
  | .pulseTimerExpiry door => inRange 0 31 door
  | .heldCompareA door => inRange 0 31 door
  | .heldCompareB door => inRange 0 31 door
  | .exitDelayExpiry zone => inRange 1 24 zone
  | .entryDelayExpiry zone => inRange 1 24 zone
  | .escalationStep call => inRange 1 254 call
  | .escalationCycleEnd call => inRange 1 254 call
  | .confirmationTimerExpiry => true
  | .beatTimerExpiry => true
  | .signPassVisit => true
  | .coldStart => true

end Sys2Proof
end

