-- ==== Sys2Proof/Tests/Slice0.lean ====
section
/-! SUPPORT. Tests of one step each on small states: ill-formed commands, the worked values of the spec, and for every
statement with hypotheses a state and operands that meet them. Expected results come from the spec's text. -/

namespace Sys2Proof.Tests

open Sys2Proof.Machine

set_option Elab.async false

/-! ### A small wing -/

/-- The state after a command. -/
def after (c : Instr) (s : State) : State :=
  match exec c s with
  | .next t => t
  | .fault _ => s
  | .refused _ => s

/-- A wing record with every field at a value of its range. -/
def wing : WingRecord :=
  ⟨true, 60, 3, 10, 120, 30, 20, 60, 2, 5, 30, 20, .trouble, 0#8, 5, List.replicate 16 0#8, List.replicate 33 0#8⟩

/-- Station 5, configured and not yet RUNNING. -/
def bare : State :=
  { State.reset with
    clock := 1000
    mgmt.part := .unconfigured
    mgmt.station := some 5#5
    mgmt.wing := wing }

/-- A device entry. -/
def dev (k : DeviceKind) (z : Nat) : DeviceEntry := ⟨true, some k, z, 0, []⟩

/-- A door record in SECURED with its contact closed and its lock in force. -/
def shutDoor : DoorRecord :=
  { DoorRecord.cold with state := some .secured, commanded := some .lock, contact := some .closed }

/-- Egress door 0 of zone 1 on module 2, and strongroom door 31 between zones 24 and 1 on module 5. -/
def doorTable : Vector DoorEntry 32 :=
  place (place (Vector.replicate 32 .cold) 0 ⟨true, false, false, 2, .egress, 1, 0, 5, 30, []⟩) 31
    ⟨true, false, false, 5, .strongroom, 24, 1, 0, 60, []⟩

/-- Sign 47 on device 6, with one option to the left that leads into zone 1 through door 0. -/
def signTable : Vector SignEntry 48 :=
  place (Vector.replicate 48 .cold) 47 ⟨true, 6, 1, [some ⟨.left, [1], [0]⟩, none, none, none], []⟩

/-- A call point, a help point, door modules 2 and 5, a sign device and a motion detector. -/
def deviceTable : Vector DeviceEntry 127 :=
  let v := place (place (place (Vector.replicate 127 .cold) 1 (dev .mcp 1)) 2 (dev .door 1)) 3 (dev .help 1)
  place (place (place v 5 (dev .door 24)) 6 (dev .sign 1)) 126 (dev .motion 24)

/-- The wing's tables: zone 1 is counted, and zone 24 is not. -/
def tables (s : State) : State :=
  { s with
    mgmt.zones := place (place (Vector.replicate 25 .cold) 1 ⟨true, .gallery, .single, true, []⟩) 24
      ⟨true, .gallery, .double, false, []⟩
    mgmt.devices := deviceTable
    mgmt.doors := doorTable
    mgmt.signs := signTable }

/-- The wing in RUNNING by night, both zones NORMAL and both doors SECURED. -/
def hall : State :=
  let s := { (tables bare) with mgmt.part := .running, port.link := .online }
  (((s.putZone 1 { ZoneRecord.cold with fire := .normal }).putZone 24 { ZoneRecord.cold with fire := .normal }).putDoor 0
    shutDoor).putDoor 31 shutDoor

/-- A detector in ALARM whose last compare is ABOVE. -/
def aboveDetector : Detector := ⟨.alarm, 1600, 50, 200, 2000, 3, .normal, .above, some 300, some .night⟩

/-- A frame header on port U from a station to station 5 with tag 7. -/
def hdr (src : BitVec 5) : Header := ⟨.u, 5#5, 0#7, src, 3#7, 15#4, 7#8⟩

/-- A header for all stations with a hop count. -/
def toAll (src : BitVec 5) (hop : BitVec 4) : Header := ⟨.u, 31#5, 0#7, src, 3#7, hop, 7#8⟩

/-- A header on port U for a device of station 5. -/
def toDevice (src : BitVec 5) (d : BitVec 7) : Header := ⟨.u, 5#5, d, src, 3#7, 15#4, 7#8⟩

/-- A REPORT frame of a device as the field port receives it. -/
def report (d : BitVec 7) (tag : Byte) (payload : List Byte) : Frame := ⟨5#5, 0#7, 5#5, d, .report, 0#4, tag, payload⟩

/-- A live call of help point 3. -/
def call (n p : Nat) (st : CallState) : Call :=
  ⟨n, 3, 1, .assist, p, st, 1, false, false, if st = .taken then none else some ⟨1000, 20, 60, false⟩, 0⟩

/-- A waiting internal LOCK order for a target. -/
def order (target cls : Nat) : OrderRecord := ⟨target, .lock, cls, none, 0, false, false, .internal, false⟩

/-- The notices in the queue. -/
def noticesOf (s : State) : List Notice := s.port.notices.map (·.notice)

/-- The payload of the youngest ready answer on U. -/
def answer (s : State) : List Byte := ((s.port.answersU.ready.getLast?).map (·.payload)).getD []

/-- The result code a command is answered with on U. -/
def resultOf (c : Instr) (s : State) : Byte := ((answer (after c s))[1]?).getD 0xFF#8

/-! ### Ill-formed commands -/

theorem test_ill_formed_args :
    (Instr.assign (hdr 0) (List.replicate 48 0#8)).wellFormed = false
      ∧ (Instr.assign (hdr 0) (List.replicate 47 0#8)).wellFormed = true
      ∧ (Instr.loadTable (hdr 0) 4#8 7#8 (List.replicate 46 0#8)).wellFormed = false
      ∧ (Instr.loadTable (hdr 0) 4#8 7#8 (List.replicate 45 0#8)).wellFormed = true := by decide +kernel

theorem test_ill_formed_payloads :
    (Instr.relayedOrder (hdr 0) (List.replicate 49 0#8)).wellFormed = false
      ∧ (Instr.relayedOrder (hdr 0) (List.replicate 48 0#8)).wellFormed = true
      ∧ (Instr.beat (hdr 0) (List.replicate 49 0#8)).wellFormed = false
      ∧ (Instr.pause (hdr 0) (List.replicate 49 0#8)).wellFormed = false
      ∧ (Instr.resume (hdr 0) (List.replicate 49 0#8)).wellFormed = false
      ∧ (Instr.setBadRequest (hdr 0) (List.replicate 49 0#8)).wellFormed = false := by decide +kernel

/-- A bad request is no request's payload: 07h alone is RESTART, and with a byte after it nothing. -/
theorem test_ill_formed_bad_request :
    (Instr.setBadRequest (hdr 0) [0x07#8]).wellFormed = false
      ∧ (Instr.setBadRequest (hdr 0) [0x07#8, 0#8]).wellFormed = true := by decide +kernel

theorem test_ill_formed_zones :
    (Instr.doubleKnockWindowExpiry 0).wellFormed = false ∧ (Instr.doubleKnockWindowExpiry 25).wellFormed = false
      ∧ (Instr.walkTestTimerExpiry 0).wellFormed = false ∧ (Instr.walkTestTimerExpiry 25).wellFormed = false
      ∧ (Instr.exitDelayExpiry 0).wellFormed = false ∧ (Instr.exitDelayExpiry 25).wellFormed = false
      ∧ (Instr.entryDelayExpiry 0).wellFormed = false ∧ (Instr.entryDelayExpiry 25).wellFormed = false
      ∧ (Instr.entryDelayExpiry 24).wellFormed = true := by decide

theorem test_ill_formed_doors_and_calls :
    (Instr.pulseTimerExpiry 32).wellFormed = false ∧ (Instr.heldCompareA 32).wellFormed = false
      ∧ (Instr.heldCompareB 32).wellFormed = false ∧ (Instr.heldCompareB 31).wellFormed = true
      ∧ (Instr.escalationStep 0).wellFormed = false ∧ (Instr.escalationStep 255).wellFormed = false
      ∧ (Instr.escalationCycleEnd 0).wellFormed = false ∧ (Instr.escalationCycleEnd 255).wellFormed = false
      ∧ (Instr.escalationCycleEnd 254).wellFormed = true := by decide

/-! ### Frames -/

/-- The published check value of this polynomial and initial value: 29B1h over the nine digits 1 to 9. -/
theorem test_crc_of_the_digits :
    crc [0x31#8, 0x32#8, 0x33#8, 0x34#8, 0x35#8, 0x36#8, 0x37#8, 0x38#8, 0x39#8] = 0x29B1#16 := by decide +kernel

/-- The worked example of chapter 11: the header of a LOAD-TABLE of door 7, and its 20 bytes. -/
theorem test_worked_header :
    let f : Frame := ⟨5#5, 0#7, 0#5, 0#7, .set, 15#4, 33#8,
      [0x02#8, 0x04#8, 0x07#8, 0x80#8, 0x1F#8, 0x00#8, 0x03#8, 0x00#8, 0x00#8, 0x1E#8, 0x00#8, 0x78#8]⟩
    f.headerBytes = [0x28#8, 0x00#8, 0x00#8, 0x3F#8, 0x21#8, 0x0C#8] ∧ f.bytes.length = 20 := by decide +kernel

/-- The worked report of chapter 11: 01h 0Eh 00h of a SMOKE detector is a reading of 270. -/
theorem test_worked_report :
    readReport .smoke [0x01#8, 0x0E#8, 0x00#8] = some (.detector .smoke 270 false false) := by decide +kernel

/-- A received string without bytes, with a missing stop bit or longer than any frame is no sound frame. -/
theorem test_damaged_frames :
    ¬soundFrame ⟨[], false⟩ ∧ ¬soundFrame ⟨(report 1 0 []).bytes, true⟩ ∧ ¬soundFrame ⟨List.replicate 57 0#8, false⟩ := by
  refine ⟨?_, ?_, ?_⟩
  · rintro ⟨_, f, _, h⟩
    have := congrArg List.length h
    simp [Frame.bytes, Frame.headerBytes] at this
  · rintro ⟨h, _⟩
    exact absurd h (by decide)
  · rintro ⟨_, f, hf, h⟩
    have := congrArg List.length h
    simp [Frame.bytes, Frame.headerBytes] at this
    omega

theorem test_damaged_frames_count :
    (after (.backboneFrame .d ⟨List.replicate 57 0#8, false⟩) hall).counter .tooLongD = 1
      ∧ (after (.backboneFrame .u ⟨List.replicate 56 0#8, false⟩) hall).counter .badFrameU = 1
      ∧ (after (.fieldFrame ⟨[], false⟩) hall).counter .badFrameF = 1 := by decide +kernel

/-- Requests as payloads spell them, the longest LOAD-TABLE and a payload of no request among them. -/
theorem test_proper_requests :
    Request.restart.proper ∧ Request.restart.payload.length ≤ 48
      ∧ (Request.loadTable 0 0 (List.replicate 45 0#8)).proper
      ∧ (Request.loadTable 0 0 (List.replicate 45 0#8)).payload.length ≤ 48
      ∧ (Request.bad [0x07#8, 0#8]).proper ∧ (Request.bad []).proper := by
  refine ⟨fun _ e => ?_, by decide, fun _ e => ?_, by decide, fun _ e => ?_, fun _ e => ?_⟩ <;> cases e <;> decide

/-- REPORT, ANSWER and NOTICE frames that the part takes are discarded; one for all stations is repeated besides. -/
theorem test_discarded_frames :
    let taken := fun (h : Header) (k : FrameKind) =>
      (after (.backboneFrame .u (headerFrame h k [0x80#8]).received) hall).port.downQueue.length
    hall.hears (hdr 0) ∧ hall.hears (toAll 0 1)
      ∧ [FrameKind.report, .answer, .notice].map (taken (hdr 0)) = [0, 0, 0]
      ∧ [FrameKind.report, .answer, .notice].map (taken (toAll 0 1)) = [1, 1, 1] := by
  unfold State.hears
  decide +kernel

/-- A frame for station 6 is not taken; with no hops, with one and toward a full queue. -/
theorem test_frames_for_others :
    let f : Frame := ⟨6#5, 0#7, 0#5, 0#7, .set, 1#4, 9#8, []⟩
    let full : State := hall.putPassQueue .d (List.replicate 8 f)
    ¬hall.takesFrame f ∧ ¬full.takesFrame f
      ∧ (after (.backboneFrame .u f.received) hall).port.downQueue = [{ f with hop := 0#4 }]
      ∧ (after (.backboneFrame .u { f with hop := 0#4 }.received) hall).counter .hopExpired = 1
      ∧ (after (.backboneFrame .u f.received) full).counter .passDroppedDown = 1 := by
  unfold State.takesFrame
  decide +kernel

/-- A part with a number, and a SET and an ORDER for all stations with no hops left and with 15; the permit stands. -/
theorem test_broadcast_requests :
    let s : State := { hall with door.permit := some 31 }
    s.mgmt.part ≠ .unnumbered ∧ s.stationNumber ≠ 31#5
      ∧ (after (.restart (toAll 0 0)) s).port.downQueue = [] ∧ (after (.restart (toAll 0 15)) s).port.downQueue.length = 1
      ∧ (after (.restart (toAll 0 15)) s).door.permit = some 31
      ∧ (after (.relayedOrder (toAll 0 0) [0#8, 1#8]) s).port.downQueue = []
      ∧ (after (.relayedOrder (toAll 0 15) [0#8, 1#8]) s).port.downQueue.map (·.hop) = [14#4]
      ∧ (after (.relayedOrder (toAll 0 15) [0#8, 1#8]) s).port.answersU.size = 0
      ∧ (after (.restart (toAll 0 15)) (s.putPassQueue .d (List.replicate 8 (report 1 0 [])))).counter .passDroppedDown
        = 1 := by decide +kernel

/-! ### Numbering, answering and judging -/

theorem test_assign_hypotheses :
    State.reset.mgmt.part = .unnumbered ∧ State.reset.mgmt.station = none ∧ State.reset.answerRoom .u = true
      ∧ 1 + (List.replicate 47 0#8).length ≤ 48 := by decide +kernel

/-- ASSIGN by the four checks of R163, at the ends of each range. -/
theorem test_assign_clauses :
    resultOf (.assign (toAll 0 15) []) State.reset = 1#8
      ∧ resultOf (.assign (toAll 1 15) [5#8]) State.reset = 0x0A#8
      ∧ resultOf (.assign (toAll 0 15) [0#8]) State.reset = 3#8
      ∧ resultOf (.assign (toAll 0 15) [31#8]) State.reset = 3#8
      ∧ resultOf (.assign (toAll 0 15) [1#8]) State.reset = 0#8
      ∧ (after (.assign (toAll 0 15) [30#8]) State.reset).mgmt.station = some 30#5 := by decide +kernel

/-- A SET for station 5 is taken, in RUNNING and before it. -/
theorem test_hall_takes (src : BitVec 5) : hall.takes (hdr src) ∧ hall.running = true ∧ bare.takes (hdr src) := by
  refine ⟨⟨by decide +kernel, rfl, ?_, ?_⟩, by decide +kernel, ⟨by decide +kernel, rfl, ?_, ?_⟩⟩
  · show (5#5 : BitVec 5) ≠ 31#5; decide
  · show hall.answerRoom .u = true; decide +kernel
  · show (5#5 : BitVec 5) ≠ 31#5; decide
  · show bare.answerRoom .u = true; decide +kernel

/-- Sixteen answer entries are full. -/
theorem test_full_answers :
    let s : State := hall.putAnswers .u ⟨List.replicate 8 .forSet, List.replicate 8 (report 1 0 [])⟩
    s.mgmt.part ≠ .unnumbered ∧ (hdr 0).destStation = s.stationNumber ∧ (hdr 0).destStation ≠ 31#5
      ∧ 16 ≤ (s.answers (hdr 0).port).size
      ∧ (after (.restart (hdr 0)) s).counter .requestsDroppedU = 1
      ∧ (after (.relayedOrder (toDevice 0 6) [0#8, 1#8]) s).counter .requestsDroppedU = 1 := by decide +kernel

/-- The same of a broadcast ASSIGN to a part without a number. -/
theorem test_full_answers_assign :
    let s : State := State.reset.putAnswers .u ⟨[], List.replicate 16 (report 1 0 [])⟩
    s.mgmt.part = .unnumbered ∧ (toAll 0 15).destStation = 31#5 ∧ 16 ≤ (s.answers (toAll 0 15).port).size
      ∧ (after (.assign (toAll 0 15) [5#8]) s).counter .requestsDroppedU = 1
      ∧ (after (.assign (toAll 0 15) [5#8]) s).mgmt.station = none := by decide +kernel

theorem test_judged_in_order :
    readRequest [] = .bad [] ∧ resultOf (.setBadRequest (hdr 1) []) hall = 1#8
      ∧ readRequest [0x18#8] = .bad [0x18#8] ∧ resultOf (.setBadRequest (hdr 1) [0x18#8]) bare = 1#8
      ∧ answer (after (.setBadRequest (hdr 1) [0x18#8]) bare) = [0x18#8, 1#8]
      ∧ answer (after (.setBadRequest (hdr 1) [2#8, 1#8]) bare) = [2#8, 1#8, 0#8]
      ∧ resultOf (.assign (hdr 1) [1#8]) bare = 1#8
      ∧ (Request.loadTable 6 0 [0#8, 0#8, 0#8]).badForm = true ∧ (Request.loadTable 1 0 [0#8]).badForm = true
      ∧ answer (after (.loadTable (hdr 1) 6#8 0#8 [0#8, 0#8, 0#8]) bare) = [2#8, 1#8, 0#8]
      ∧ Request.restart.badForm = false ∧ resultOf (.restart (hdr 1)) bare = 0x0A#8
      ∧ bare.running = false ∧ resultOf (.restart (hdr 0)) bare = 6#8 := by decide +kernel

/-! ### Tables, records and counters -/

/-- Two zone entries from 23 are stored; of two from 24 the first is, and the second is out of range. -/
theorem test_load_table :
    let e := [0x80#8, 0#8, 0#8, 0x80#8, 0#8, 1#8]
    Table.ofCode 1 = some .zone ∧ e.length % Table.zone.size = 0 ∧ (hdr 0).srcStation = 0#5
      ∧ answer (after (.loadTable (hdr 0) 1#8 23#8 e) bare) = [2#8, 0#8, 2#8]
      ∧ answer (after (.loadTable (hdr 0) 1#8 24#8 e) bare) = [2#8, 2#8, 1#8] := by decide +kernel

/-- The bytes of a wing record. -/
def wingBytes : List Byte :=
  [60#8, 3#8, 10#8, 0#8, 120#8, 30#8, 0#8, 20#8, 0#8, 60#8, 2#8, 5#8, 30#8, 20#8, 1#8, 0#8, 5#8]
    ++ List.replicate 16 0#8

theorem test_first_wing_load :
    let s : State := { bare with mgmt.wing := .cold }
    let t := after (.loadTable (hdr 0) 0#8 0#8 wingBytes) s
    s.answerRoom .u = true ∧ (List.replicate 14 0#8).length = 14 ∧ s.mgmt.wing.loaded = false
      ∧ t.sup.periodTimer = some ⟨1000, 1500000⟩ ∧ t.mgmt.wing.knockWindow = 120 ∧ t.mgmt.wing.watchMode = .trouble
      ∧ answer t = [2#8, 0#8, 1#8] := by decide +kernel

/-- A second wing record is buffered, and leaves the period timer as it runs. -/
theorem test_second_wing_load :
    let t := after (.loadTable (hdr 0) 0#8 0#8 wingBytes) bare
    bare.answerRoom .u = true ∧ bare.mgmt.wing.loaded = true ∧ t.sup.periodTimer = none
      ∧ t.sup.buffered = some (60, 3) := by decide +kernel

/-- A wing record with one byte beyond an end of its range, at it, and while a zone is in ALARM in RUNNING (R167). -/
theorem test_wing_ranges :
    let load := fun (i : Nat) (b : Byte) => answer (after (.loadTable (hdr 0) 0#8 0#8 (wingBytes.set i b)) bare)
    [load 0 1, load 0 61, load 1 0, load 1 7, load 2 61, load 4 29, load 5 0, load 5 241, load 9 9, load 10 8, load 11 8,
        load 14 3, load 16 0, load 16 31] = List.replicate 14 [2#8, 3#8, 0#8]
      ∧ [load 0 2, load 0 60, load 1 6, load 2 0, load 4 30, load 5 240, load 9 10, load 11 7, load 13 255, load 14 2,
        load 16 30] = List.replicate 11 [2#8, 0#8, 1#8]
      ∧ answer (after (.loadTable (hdr 0) 0#8 0#8 wingBytes) (hall.putZone 24 { ZoneRecord.cold with fire := .alarm }))
        = [2#8, 5#8, 0#8] := by decide +kernel

/-- READ-TABLE at the ends of its counts and indexes: fifteen zone entries of three bytes fit one ANSWER. -/
theorem test_read_table :
    resultOf (.readTable (hdr 1) 6#8 0#8 1#8) hall = 1#8 ∧ resultOf (.readTable (hdr 1) 1#8 1#8 0#8) hall = 3#8
      ∧ resultOf (.readTable (hdr 1) 1#8 1#8 17#8) hall = 3#8 ∧ resultOf (.readTable (hdr 1) 1#8 0#8 1#8) hall = 2#8
      ∧ resultOf (.readTable (hdr 1) 1#8 24#8 2#8) hall = 2#8
      ∧ answer (after (.readTable (hdr 1) 1#8 24#8 1#8) hall) = [3#8, 0#8, 1#8, 0x80#8, 0#8, 1#8]
      ∧ (answer (after (.readTable (hdr 1) 1#8 1#8 16#8) hall)).length = 48 := by decide +kernel

/-- An entry that is stored. -/
def stored (r : Except Result State) : Bool :=
  match r with
  | .ok _ => true
  | .error _ => false

theorem stored_ok {r : Except Result State} (h : stored r = true) : ∃ t, r = .ok t := by
  cases r with
  | ok t => exact ⟨t, rfl⟩
  | error e => exact absurd h (by simp [stored])

/-- A class entry: SMOKE with drift, floor 10, baseline 100 within 50 and 200, levels 60 and 120. -/
def classBytes : List Byte :=
  [0x81#8, 0#8, 10#8, 0#8, 100#8, 0#8, 50#8, 0#8, 200#8, 16#8] ++ [1#8, 0#8, 60#8, 0#8, 120#8, 3#8]
    ++ [1#8, 0#8, 60#8, 0#8, 120#8, 3#8]

/-- An entry of each table that is stored with its ignored bits clear. -/
theorem test_entries_stored :
    (∃ t, bare.loadEntry .zone 24 [0xC0#8, 4#8, 1#8] = .ok t) ∧ 0xC0#8 &&& 0x3F#8 = 0#8
      ∧ (∃ t, bare.loadEntry .device 126 [0x87#8, 24#8, 7#8] = .ok t) ∧ 0x87#8 &&& 0x70#8 = 0#8
      ∧ (∃ t, bare.loadEntry .cls 7 classBytes = .ok t) ∧ 0x81#8 &&& 0x7C#8 = 0#8
      ∧ (∃ t, (tables bare).loadEntry .door 0 [0x80#8, 2#8, 0#8, 1#8, 0#8, 0#8, 5#8, 0#8, 30#8] = .ok t)
      ∧ 0x80#8 &&& 0x1F#8 = 0#8
      ∧ (∃ t, bare.loadEntry .wing 0 wingBytes = .ok t)
      ∧ clearIgnored (wingBytes.drop 17) = wingBytes.drop 17 :=
  ⟨stored_ok (by decide +kernel), by decide, stored_ok (by decide +kernel), by decide, stored_ok (by decide +kernel),
    by decide, stored_ok (by decide +kernel), by decide, stored_ok (by decide +kernel), by decide +kernel⟩

/-- The state a load gives, or the old one where it is refused. -/
def loadedBy (r : Except Result State) (s : State) : State := r.toOption.getD s

/-- The result that refuses a load. -/
def refusal (r : Except Result State) : Option Result :=
  match r with
  | .ok _ => none
  | .error e => some e

/-- The bytes of a sign entry: device 6, default option 1, and one slot to the left with zones and doors. -/
def signBytes (b dflt : Byte) (slot0 : List Byte) : List Byte := [b, 6#8, dflt] ++ slot0 ++ List.replicate 21 0#8

/-- A slot with gaps: zones 5 and 3, and door 3, behind unused places. -/
def gaps : List Byte := [1#8, 0#8, 5#8, 0#8, 3#8, 0xFF#8, 3#8]

/-- A sign entry with gaps in its slot is stored, drives its lists in order, and reads back as it was loaded. -/
theorem test_sign_with_gaps :
    let e := signBytes 0x80#8 1#8 gaps
    let t := loadedBy ((tables bare).loadEntry .sign 47 e) bare
    (∃ t, (tables bare).loadEntry .sign 47 e = .ok t) ∧ 0x80#8 &&& 0x7F#8 = 0#8
      ∧ (∀ k, k < 4 → ∀ x ∈ ((e.drop 1)[7 * k + 2]?), x = 0#8 → ∀ y ∈ ((e.drop 1).drop (7 * k + 2)).take 7, y = 0#8)
      ∧ (t.signEntry 47).slots = [some ⟨.left, [5, 3], [3]⟩, none, none, none] ∧ t.entryBytes .sign 47 = e := by
  refine ⟨stored_ok (by decide +kernel), by decide, ?_, by decide +kernel, by decide +kernel⟩
  intro k hk
  have : ∀ k < 4, ∀ x ∈ (((signBytes 0x80#8 1#8 gaps).drop 1)[7 * k + 2]?).toList, x = 0#8 →
      ∀ y ∈ (((signBytes 0x80#8 1#8 gaps).drop 1).drop (7 * k + 2)).take 7, y = 0#8 := by decide +kernel
  exact fun x hx => this k hk x (Option.mem_toList.mpr hx)

/-- DEVICE entries at the ends of their index, zone and class, and each refusal; device 2 is the module of door 0. -/
theorem test_device_loads :
    let smoke := [0x81#8, 1#8, 0#8]
    [0, 127].map (fun i => refusal (hall.loadEntry .device i smoke)) = [some .badIndex, some .badIndex]
      ∧ [1, 126].map (fun i => refusal (hall.loadEntry .device i smoke)) = [none, none]
      ∧ [[0x80#8, 1#8, 0#8], [0x81#8, 0#8, 0#8], [0x81#8, 25#8, 0#8], [0x81#8, 1#8, 8#8]].map
          (fun e => refusal (hall.loadEntry .device 9 e)) = List.replicate 4 (some .badValue)
      ∧ refusal (hall.loadEntry .device 2 smoke) = some .badValue
      ∧ refusal ((hall.putDetector 9 (some aboveDetector)).loadEntry .device 9 smoke) = some .busyEntry
      ∧ (loadedBy (hall.loadEntry .device 9 smoke) hall).detectorState 9 = some .quiet := by decide +kernel

/-- A MISSING sign device loaded again is told by one TROUBLE notice and makes the routes stale. -/
theorem test_device_reloaded :
    let s := hall.putDevice 6 ⟨List.replicate 6 false, { Causes.empty with missing := true }⟩
    let t := loadedBy (s.loadEntry .device 6 [0x87#8, 1#8, 0#8]) hall
    t.missing 6 = false ∧ t.zone.routeStale = true
      ∧ t.port.notices.map (·.notice) = [.trouble 6 (some .sign) 1 .empty none] := by decide +kernel

/-- ZONE entries at the ends of their index, kind and mode, in an alarm, and what disabling a zone does. -/
theorem test_zone_loads :
    let off := [0#8, 0#8, 0#8]
    let armed := (hall.putZone 24 { ZoneRecord.cold with fire := .test }).putGuard 24
      { GuardRecord.cold with state := .armed }
    hall.running = true
      ∧ [0, 25].map (fun i => refusal (hall.loadEntry .zone i off)) = [some .badIndex, some .badIndex]
      ∧ [[0#8, 5#8, 0#8], [0#8, 0#8, 2#8]].map (fun e => refusal (hall.loadEntry .zone 24 e))
        = [some .badValue, some .badValue]
      ∧ refusal ((hall.putZone 1 { ZoneRecord.cold with fire := .alarm }).loadEntry .zone 24 off) = some .fireHold
      ∧ (loadedBy (bare.loadEntry .zone 24 [0x80#8, 4#8, 1#8]) bare).fireState 24 = .normal
      ∧ (loadedBy (armed.loadEntry .zone 24 off) hall).port.notices.map (·.notice)
        = [.testEnd 24 .disabled, .zoneDisarmed 24 .armed .disabled]
      ∧ (loadedBy ((hall.putOccupancy 1 ⟨9, 0, 0⟩).loadEntry .zone 1 [0x80#8, 0#8, 0#8]) hall).occupancy 1 = ⟨0, 0, 0⟩ := by
  decide +kernel

/-- CLASS entries at the ends of their index and of their levels, and one that an enabled device of the other kind has. -/
theorem test_class_loads :
    let heat := [2#8] ++ (classBytes.drop 1)
    let s := hall.putDeviceEntry 9 (dev .smoke 1)
    [7, 8].map (fun i => refusal (hall.loadEntry .cls i classBytes)) = [none, some .badIndex]
      ∧ [0#8, 8#8].map (fun v => refusal (hall.loadEntry .cls 7 (classBytes.take 21 ++ [v])))
        = [some .badValue, some .badValue]
      ∧ refusal (hall.loadEntry .cls 0 heat) = none ∧ refusal (s.loadEntry .cls 0 heat) = some .badValue
      ∧ ((loadedBy (hall.loadEntry .cls 7 classBytes) hall).classEntry 7).night = ⟨1, 60, 120, 3⟩ := by decide +kernel

/-- The bytes of a door entry of module 2, with side zone 1 alone and compare times. -/
def doorBytes (b m k za zb : Byte) (aLo bLo : Byte) : List Byte := [b, m, k, za, zb, 0#8, aLo, 0#8, bLo]

/-- DOOR entries at the ends of their index and fields, and each refusal. -/
theorem test_door_loads :
    let good := doorBytes 0x80#8 2#8 0#8 1#8 24#8 0#8 30#8
    [0, 32].map (fun i => refusal (hall.loadEntry .door i good)) = [none, some .badIndex]
      ∧ [doorBytes 0x80#8 0#8 0#8 1#8 0#8 0#8 1#8, doorBytes 0x80#8 127#8 0#8 1#8 0#8 0#8 1#8,
          doorBytes 0x80#8 2#8 0#8 25#8 0#8 0#8 1#8, doorBytes 0x80#8 2#8 0#8 1#8 1#8 0#8 1#8,
          doorBytes 0xC0#8 2#8 0#8 1#8 0#8 0#8 1#8, doorBytes 0x80#8 2#8 0#8 1#8 0#8 0#8 0#8,
          doorBytes 0x80#8 2#8 4#8 1#8 0#8 0#8 1#8, doorBytes 0x80#8 6#8 0#8 1#8 0#8 0#8 1#8].map
          (fun e => refusal (hall.loadEntry .door 0 e)) = List.replicate 8 (some .badValue)
      ∧ refusal (hall.loadEntry .door 1 good) = some .badValue
      ∧ refusal ((hall.putZone 24 { ZoneRecord.cold with fire := .alarm }).loadEntry .door 0 good) = some .fireHold
      ∧ refusal ((hall.putDoor 0 { shutDoor with state := some .propped }).loadEntry .door 0 good) = some .busyEntry
      ∧ ((loadedBy (hall.loadEntry .door 0 good) hall).doorRecord 0).state = some .secured
      ∧ (loadedBy (hall.loadEntry .door 0 good) hall).order.pool.map (·.code) = [.lock]
      ∧ hall.passable 0 = false ∧ (hall.putDoor 0 { shutDoor with state := some .free }).passable 0 = true := by
  decide +kernel

/-- SIGN entries at the ends of their index and fields, and each refusal. -/
theorem test_sign_loads :
    let slots : List (List Byte) := gaps :: List.replicate 3 (List.replicate 7 0#8)
    let good := signBytes 0x80#8 1#8 gaps
    slots.length = 4 ∧ (∀ w ∈ slots, w.length = 7) ∧ good = 0x80#8 :: 6#8 :: 1#8 :: slots.flatten
      ∧ [0, 47, 48].map (fun i => refusal (hall.loadEntry .sign i good)) = [some .badValue, none, some .badIndex]
      ∧ [signBytes 0#8 0#8 gaps, signBytes 0#8 5#8 gaps, signBytes 0#8 2#8 gaps,
          signBytes 0#8 1#8 [6#8, 0#8, 0#8, 0#8, 0#8, 0xFF#8, 0xFF#8],
          signBytes 0#8 1#8 [1#8, 25#8, 0#8, 0#8, 0#8, 0xFF#8, 0xFF#8],
          signBytes 0#8 1#8 [1#8, 3#8, 0#8, 3#8, 0#8, 0xFF#8, 0xFF#8],
          signBytes 0#8 1#8 [1#8, 0#8, 0#8, 0#8, 0#8, 32#8, 0xFF#8],
          signBytes 0#8 1#8 [1#8, 0#8, 0#8, 0#8, 0#8, 31#8, 0xFF#8]].map
          (fun e => refusal (hall.loadEntry .sign 47 e)) = List.replicate 8 (some .badValue)
      ∧ refusal ((hall.putZone 24 { ZoneRecord.cold with fire := .alarm }).loadEntry .sign 47 good) = some .fireHold
      ∧ ((loadedBy (hall.loadEntry .sign 47 good) hall).signRecord 47).desired = some (.steady .left)
      ∧ (loadedBy (hall.loadEntry .sign 47 good) hall).zone.routeStale = true := by decide +kernel

/-- READ-STATE at the ends of each object's range. -/
theorem test_read_state_ranges :
    (∀ x ∈ [(0, 1), (0, 126), (1, 1), (1, 24), (2, 0), (2, 31), (3, 0), (3, 47), (5, 0), (6, 0)],
      resultOf (.readState (hdr 1) (BitVec.ofNat 8 x.1) (BitVec.ofNat 8 x.2)) hall = 0#8)
    ∧ (∀ x ∈ [(0, 0), (0, 127), (1, 0), (1, 25), (2, 32), (3, 48), (4, 1)],
      resultOf (.readState (hdr 1) (BitVec.ofNat 8 x.1) (BitVec.ofNat 8 x.2)) hall = 2#8)
    ∧ resultOf (.readState (hdr 1) 4#8 254#8) { hall with call.calls := [call 254 2 .waiting] } = 0#8
    ∧ resultOf (.readState (hdr 1) 7#8 0#8) hall = 1#8 := by decide +kernel

/-- The sign entries of the wing have four slots each, and the record of its enabled sign has 41 bytes. -/
theorem test_records_fit :
    (∀ n, (hall.signEntry n).slots.length = 4
      ∧ ∀ o, some o ∈ (hall.signEntry n).slots → o.zones.length ≤ 4 ∧ o.doors.length ≤ 2)
    ∧ hall.zone.fireList.length ≤ 24 ∧ (hall.signEntry 47).enabled = true
    ∧ (hall.readObject 3 47).toOption.map (·.length) = some 41 := by
  refine ⟨fun n => ?_, by decide +kernel, by decide +kernel, by decide +kernel⟩
  show (slot signTable n .cold).slots.length = 4 ∧ ∀ o, some o ∈ (slot signTable n .cold).slots → _
  by_cases h : n < 48
  · have : ∀ n < 48, (slot signTable n .cold).slots.length = 4
        ∧ ∀ o ∈ (slot signTable n .cold).slots.filterMap id, o.zones.length ≤ 4 ∧ o.doors.length ≤ 2 := by decide +kernel
    exact ⟨(this n h).1, fun o ho => (this n h).2 o (List.mem_filterMap.mpr ⟨_, ho, rfl⟩)⟩
  · rw [slot_outside _ _ _ (by omega)]
    simp [SignEntry.cold]

/-- The records of an EGRESS door, a counted zone and a help point, field by field, and the detector part of a detector
in ALARM (R16, R40, R57, R83, R96). -/
theorem test_record_bytes :
    hall.doorBytes 0 = [1#8, 2#8, 0#8, 1#8, 0#8, 0#8, 0#8, 0#8, 5#8, 0#8, 30#8, 0#8, 0#8, 0#8, 0#8, 0#8, 1#8, 0xFF#8, 0#8,
        0#8, 0xFF#8, 0#8, 0xFF#8, 0xFF#8, 0xFF#8, 0xFF#8, 0#8, 0#8, 0#8]
      ∧ hall.zoneBytes 1 = [1#8, 0#8, 0#8, 1#8, 1#8, 0#8, 0xFF#8, 0xFF#8, 0xFF#8, 0xFF#8, 0xFF#8, 0#8, 0xFF#8, 0#8, 0#8,
        0xFF#8, 0xFF#8, 0xFF#8, 0xFF#8, 0xFF#8, 0#8, 0#8, 0#8, 0#8, 0#8]
      ∧ hall.deviceBytes 3 = [1#8, 6#8, 1#8, 0#8, 0x3F#8, 0#8, 0#8, 0#8, 0xFF#8]
      ∧ aboveDetector.bytes = [4#8, 3#8, 0x06#8, 0x40#8, 0#8, 50#8, 0#8, 200#8, 0x07#8, 0xD0#8, 4#8, 3#8, 0x01#8, 0x2C#8,
        1#8] := by decide +kernel

theorem test_read_counters :
    let s := hall.count .hopExpired
    resultOf (.readCounters (hdr 1)) s = 0x0A#8 ∧ (after (.readCounters (hdr 1)) s).counter .hopExpired = 1
      ∧ (answer (after (.readCounters (hdr 0)) s)).take 17 = [5#8, 0#8] ++ List.replicate 13 0#8 ++ [1#8, 0#8]
      ∧ (after (.readCounters (hdr 0)) s).counter .hopExpired = 0 := by decide +kernel

/-! ### Wing mode and restart -/

theorem test_set_mode_clauses :
    resultOf (.setMode (hdr 1) 0#8) hall = 0x0A#8 ∧ resultOf (.setMode (hdr 0) 2#8) hall = 3#8
      ∧ (after (.setMode (hdr 0) 0#8) hall).mgmt.mode = .day ∧ (after (.setMode (hdr 0) 1#8) hall).mgmt.mode = .night
      ∧ (after (.setMode (hdr 0) 0#8) hall).sign.pass = some 0 ∧ (after (.setMode (hdr 0) 1#8) hall).sign.pass = none
      ∧ resultOf (.setMode (hdr 0) 0#8) { bare with mgmt.wing := .cold } = 6#8
      ∧ (after (.setMode (hdr 0) 0#8) bare).running = true := by decide +kernel

/-- A setting worked out (R62): nothing new by night; class 1 by day; class 0 for FIRE; no order in FAULT; and a setting
equal to the commanded one renews the order that waits, and the door settles. -/
theorem test_settings_worked_out :
    let day := { hall with mgmt.mode := .day }
    let fire := hall.putZone 1 { ZoneRecord.cold with fire := .alarm }
    let pool := fun (s : State) => (s.workOut 0).order.pool.map fun r => (r.target, r.code, r.cls, r.notify)
    let back := { (hall.putDoor 0 { shutDoor with desired := .unlock, state := some .free }) with
      order.pool := [{ order 9 1 with inFlight := true }, { order 2 1 with code := .unlock }] }
    hall.workOut 0 = hall ∧ pool day = [(2, .unlock, 1, false)] ∧ pool fire = [(2, .unlock, 0, true)]
      ∧ ((day.workOut 0).doorRecord 0).state = some .secured
      ∧ pool (day.putDoor 0 { shutDoor with state := some .fault }) = []
      ∧ pool back = [(9, .lock, 1, false), (2, .lock, 1, false)] ∧ ((back.workOut 0).doorRecord 0).state = some .secured
      ∧ (back.workOut 0).zone.routeStale = true := by decide +kernel

/-- The enabled doors of the wing are doors 0 and 31. -/
theorem doors_enabled {d : Nat} (h : (slot doorTable d .cold).enabled = true) : d = 0 ∨ d = 31 := by
  by_cases hd : d < 32
  · have : ∀ d < 32, (slot doorTable d .cold).enabled = true → d = 0 ∨ d = 31 := by decide +kernel
    exact this d hd h
  · rw [slot_outside _ _ _ (by omega)] at h
    cases h

/-- Two enabled doors of the wing have two modules. -/
theorem doors_modules {a b : Nat} (ha : (slot doorTable a .cold).enabled = true)
    (hb : (slot doorTable b .cold).enabled = true)
    (hm : (slot doorTable a .cold).module = (slot doorTable b .cold).module) : a = b := by
  have e : (slot doorTable 0 .cold).module = 2 ∧ (slot doorTable 31 .cold).module = 5 := by decide +kernel
  rcases doors_enabled ha with rfl | rfl <;> rcases doors_enabled hb with rfl | rfl <;> first
    | rfl
    | omega

/-- The wing before RUNNING, with the module of door 31 MISSING and that of door 0 not. -/
theorem test_entry_to_running :
    let s := (tables bare).putCauses 5 { Causes.empty with missing := true }
    s.answerRoom .u = true ∧ s.running = false ∧ s.mgmt.wing.loaded = true ∧ s.modulesLaw ∧ s.sign.pass = none
      ∧ (s.doorEntry 31).enabled = true ∧ s.enabledAs (s.doorEntry 31).module .door = true
      ∧ s.missing (s.doorEntry 31).module = true ∧ s.missing (s.doorEntry 0).module = false
      ∧ ((after (.setMode (hdr 0) 0#8) s).doorRecord 31).state = some .fault
      ∧ (after (.setMode (hdr 0) 0#8) s).order.pool.map (·.code) = [.unlock, .display .dark] := by
  refine ⟨?_, ?_, ?_, fun _ _ => doors_modules, ?_, ?_, ?_, ?_, ?_, ?_, ?_⟩ <;> decide +kernel

/-- A hot start ends a walk test and clears the permit, the pause and the calls (R173). -/
theorem test_restart :
    let s := { hall.putZone 1 { ZoneRecord.cold with fire := .test } with
      door.permit := some 31
      port.pause := true
      call.calls := [call 9 2 .waiting] }
    s.answerRoom .u = true ∧ s.running = true
      ∧ (after (.restart (hdr 0)) s).fireState 1 = .normal ∧ (after (.restart (hdr 0)) s).door.permit = none
      ∧ (after (.restart (hdr 0)) s).port.pause = false ∧ (after (.restart (hdr 0)) s).call.calls = []
      ∧ (after (.restart (hdr 0)) s).port.answersU.ready.length = 1 := by decide +kernel

/-- A hot start of door, guard and sign records: the window of a door CLOSED and its setting ordered again, running delays
restarted, those of 0 expired, commanded displays UNKNOWN, and lamps of calls turned off (R58, R84, R97, R130, R146). -/
theorem test_restart_records :
    let s := hall.putDoor 0 { shutDoor with state := some .openAuth, window := .pending, heldTimer := some ⟨0, 9⟩ }
    let v := s.putSign 47 { SignRecord.cold with commanded := some .cross, owed := true }
    let u := (v.putGuard 24 ⟨.exiting, some ⟨0, 9⟩, none, none, none, 0⟩).putZone 1 ⟨.alert, some ⟨0, 9⟩, none, none⟩
    let c : State := { u with call.calls := [call 9 2 .waiting] }
    let t := after (.restart (hdr 0)) c
    let now := after (.restart (hdr 0)) { c with mgmt.wing.exitDelay := 0 }
    c.callLaw ∧ c.modulesLaw ∧ c.answerRoom .u = true
      ∧ (t.doorRecord 0).window = .closed ∧ (t.doorRecord 0).commanded = none
      ∧ (t.doorRecord 0).heldTimer = some ⟨1000, 750000⟩
      ∧ t.guardRecord 24 = ⟨.exiting, some ⟨1000, 750000⟩, none, none, none, 0⟩
      ∧ (now.guardRecord 24).state = .armed ∧ t.signRecord 47 = SignRecord.cold
      ∧ (t.zoneRecord 1).window = some ⟨1000, 3000000⟩
      ∧ t.order.pool.map (fun r => (r.target, r.code)) = [(3, .lamp .off), (2, .lock), (5, .lock)]
      ∧ noticesOf t = [] := by
  refine ⟨?_, fun _ _ => doors_modules, ?_⟩
  · unfold State.callLaw
    decide +kernel
  · decide +kernel

/-! ### Guarding -/

/-- The wing with a zone in a guard state. -/
def guarded (z : Nat) (g : GuardState) : State := hall.putGuard z { GuardRecord.cold with state := g }

/-- ARM at the ends of the zone numbers, in each guard state, and at each arming check. -/
theorem test_arm_clauses :
    resultOf (.arm (hdr 1) 1#8) hall = 0x0A#8 ∧ resultOf (.arm (hdr 0) 0#8) hall = 2#8
      ∧ resultOf (.arm (hdr 0) 25#8) hall = 2#8 ∧ resultOf (.arm (hdr 0) 1#8) (guarded 1 .exiting) = 0#8
      ∧ resultOf (.arm (hdr 0) 1#8) (guarded 1 .armed) = 0#8 ∧ resultOf (.arm (hdr 0) 1#8) (guarded 1 .entering) = 0x0B#8
      ∧ resultOf (.arm (hdr 0) 1#8) (guarded 1 .intrusion) = 0x0B#8
      ∧ resultOf (.arm (hdr 0) 24#8) (hall.putZone 24 { ZoneRecord.cold with fire := .alert }) = 5#8
      ∧ resultOf (.arm (hdr 0) 1#8) (hall.putOccupancy 1 ⟨1, 0, 0⟩) = 7#8
      ∧ answer (after (.arm (hdr 0) 1#8) (hall.putDoor 0 { shutDoor with contact := none })) = [8#8, 8#8, 0#8]
      ∧ answer (after (.arm (hdr 0) 24#8) (hall.putDoor 31 { shutDoor with state := some .forced })) = [8#8, 8#8, 31#8]
      ∧ resultOf (.arm (hdr 0) 24#8) (hall.putDoor 0 { shutDoor with contact := none }) = 0#8 := by decide +kernel

theorem test_arm_delays :
    (after (.arm (hdr 0) 24#8) hall).guardRecord 24 = ⟨.exiting, some ⟨1000, 750000⟩, none, none, none, 0⟩
      ∧ ((after (.arm (hdr 0) 1#8) { hall with mgmt.wing.exitDelay := 0 }).guardRecord 1).state = .armed
      ∧ (after (.arm (hdr 0) 1#8) { hall with mgmt.wing.exitDelay := 0 }).port.notices.map (·.notice)
        = [.zoneArmed 1 (some 0)] := by decide +kernel

theorem test_disarm_clauses :
    resultOf (.disarm (hdr 1) 1#8) hall = 0x0A#8 ∧ resultOf (.disarm (hdr 0) 0#8) hall = 2#8
      ∧ resultOf (.disarm (hdr 0) 25#8) hall = 2#8 ∧ resultOf (.disarm (hdr 0) 24#8) hall = 0#8
      ∧ resultOf (.disarm (hdr 0) 24#8) (guarded 24 .intrusion) = 0x0B#8
      ∧ (after (.disarm (hdr 0) 1#8) (guarded 1 .entering)).port.notices.map (·.notice)
        = [.zoneDisarmed 1 .entering .disarm] := by decide +kernel

theorem test_ack_intrusion_clauses :
    resultOf (.ackIntrusion (hdr 1) 1#8) hall = 0x0A#8 ∧ resultOf (.ackIntrusion (hdr 0) 0#8) hall = 2#8
      ∧ resultOf (.ackIntrusion (hdr 0) 25#8) hall = 2#8 ∧ resultOf (.ackIntrusion (hdr 0) 1#8) (guarded 1 .armed) = 2#8
      ∧ (after (.ackIntrusion (hdr 0) 24#8) (guarded 24 .intrusion)).guardRecord 24 = GuardRecord.cold := by
  decide +kernel

/-! ### Doors and occupancy -/

theorem test_ack_door_clauses :
    let s := hall.putDoor 31 { shutDoor with state := some .forced, latch := true, contact := some .open }
    resultOf (.ackDoor (hdr 1) 31#8) s = 0x0A#8 ∧ resultOf (.ackDoor (hdr 0) 32#8) s = 2#8
      ∧ resultOf (.ackDoor (hdr 0) 1#8) s = 2#8 ∧ resultOf (.ackDoor (hdr 0) 0#8) s = 2#8
      ∧ ((after (.ackDoor (hdr 0) 31#8) s).doorRecord 31).state = some .ajar
      ∧ ((after (.ackDoor (hdr 0) 31#8) s).doorRecord 31).latch = false := by decide +kernel

theorem test_permit_clauses :
    let s : State := { hall with door.permit := some 31 }
    resultOf (.permit (hdr 1) 31#8) s = 0x0A#8 ∧ (after (.permit (hdr 1) 31#8) s).door.permit = none
      ∧ resultOf (.permit (hdr 0) 32#8) s = 2#8 ∧ resultOf (.permit (hdr 0) 0#8) s = 3#8
      ∧ resultOf (.permit (hdr 0) 30#8) s = 3#8 ∧ (after (.permit (hdr 0) 31#8) s).door.permit = some 31 := by
  decide +kernel

theorem test_open_door_clauses :
    let s : State := { hall with door.permit := some 31 }
    resultOf (.openDoor (hdr 1) 31#8) s = 0x0A#8 ∧ resultOf (.openDoor (hdr 0) 32#8) s = 2#8
      ∧ resultOf (.openDoor (hdr 0) 0#8) s = 9#8
      ∧ resultOf (.openDoor (hdr 0) 31#8) (s.putDoor 31 { shutDoor with state := some .ajar }) = 4#8
      ∧ resultOf (.openDoor (hdr 0) 31#8) { s with order.pool := List.replicate 24 (order 9 1) } = 0x0C#8
      ∧ (after (.openDoor (hdr 0) 31#8) { s with order.pool := List.replicate 24 (order 9 1) }).counter .ordersSkipped
        = 1 := by decide +kernel

theorem test_open_door_sends_the_pulse :
    let s : State := { hall with door.permit := some 31 }
    let t := after (.openDoor (hdr 0) 31#8) s
    t.door.permit = none ∧ (t.doorRecord 31).window = .pending
      ∧ t.port.lineF.map (·.frame.payload) = [[0x03#8, 5#8]] := by decide +kernel

theorem test_reset_occupancy_clauses :
    let s := hall.putOccupancy 1 ⟨40, 2, 3⟩
    resultOf (.resetOccupancy (hdr 1) 1#8) s = 0x0A#8 ∧ resultOf (.resetOccupancy (hdr 0) 0#8) s = 2#8
      ∧ resultOf (.resetOccupancy (hdr 0) 25#8) s = 2#8 ∧ resultOf (.resetOccupancy (hdr 0) 24#8) s = 2#8
      ∧ (after (.resetOccupancy (hdr 0) 1#8) s).occupancy 1 = ⟨0, 0, 0⟩ := by decide +kernel

/-! ### Fire -/

/-- The wing with zone 1 in ALARM by its call point. -/
def alarmed : State :=
  { hall.putZone 1 ⟨.alarm, none, none, some 1⟩ with zone.fireList := [1], zone.evacuation := true }

theorem test_reset_zone_clauses :
    resultOf (.resetZone (hdr 1) 1#8) alarmed = 0x0A#8 ∧ resultOf (.resetZone (hdr 0) 0#8) alarmed = 2#8
      ∧ resultOf (.resetZone (hdr 0) 25#8) alarmed = 2#8 ∧ resultOf (.resetZone (hdr 0) 24#8) alarmed = 0#8
      ∧ resultOf (.resetZone (hdr 0) 1#8) (alarmed.putActivated 1 true) = 0x0B#8
      ∧ resultOf (.resetZone (hdr 0) 1#8)
        ((alarmed.putDeviceEntry 4 (dev .smoke 1)).putDetector 4 (some aboveDetector)) = 0x0B#8
      ∧ (after (.resetZone (hdr 0) 1#8) alarmed).fireState 1 = .normal
      ∧ (after (.resetZone (hdr 0) 1#8) alarmed).zone.fireList = []
      ∧ (after (.resetZone (hdr 0) 1#8) alarmed).zone.evacuation = true := by decide +kernel

theorem test_walk_test_clauses :
    let s := hall.putZone 24 { ZoneRecord.cold with fire := .test, walk := some ⟨1000, 9⟩ }
    resultOf (.startTest (hdr 1) 1#8) s = 0x0A#8 ∧ resultOf (.startTest (hdr 0) 0#8) s = 2#8
      ∧ resultOf (.startTest (hdr 0) 25#8) s = 2#8 ∧ resultOf (.startTest (hdr 0) 24#8) s = 4#8
      ∧ (after (.startTest (hdr 0) 1#8) s).zoneRecord 1 = ⟨.test, none, some ⟨1000, 45000000⟩, none⟩
      ∧ resultOf (.endTest (hdr 1) 24#8) s = 0x0A#8 ∧ resultOf (.endTest (hdr 0) 0#8) s = 2#8
      ∧ resultOf (.endTest (hdr 0) 25#8) s = 2#8 ∧ resultOf (.endTest (hdr 0) 1#8) s = 2#8
      ∧ (after (.endTest (hdr 0) 24#8) s).zoneRecord 24 = ⟨.normal, none, none, none⟩ := by decide +kernel

theorem test_evacuation_clauses :
    resultOf (.evacuate (hdr 1)) hall = 0x0A#8 ∧ (after (.evacuate (hdr 0)) hall).zone.evacuation = true
      ∧ (after (.evacuate (hdr 0)) hall).port.notices.map (·.notice) = [.evacOn 0]
      ∧ (after (.evacuate (hdr 0)) alarmed).port.notices = [] ∧ resultOf (.standDown (hdr 1)) alarmed = 0x0A#8
      ∧ resultOf (.standDown (hdr 0)) alarmed = 5#8 ∧ (after (.standDown (hdr 0)) hall).port.notices = []
      ∧ (after (.standDown (hdr 0)) { hall with zone.evacuation := true }).zone.evacuation = false := by decide +kernel

/-! ### Calls -/

theorem test_take_and_clear_clauses :
    let s : State := { hall with call.calls := [call 1 2 .waiting, call 254 3 .taken] }
    resultOf (.takeCall (hdr 1) 1#8) s = 0x0A#8 ∧ resultOf (.takeCall (hdr 0) 2#8) s = 2#8
      ∧ (after (.takeCall (hdr 0) 1#8) s).call.calls.map (·.state) = [.taken, .taken]
      ∧ (after (.takeCall (hdr 0) 1#8) s).order.pool.map (·.code) = [.lamp .answered]
      ∧ (after (.takeCall (hdr 0) 254#8) s).order.pool = []
      ∧ resultOf (.clearCall (hdr 1) 1#8) s = 0x0A#8 ∧ resultOf (.clearCall (hdr 0) 0#8) s = 2#8
      ∧ (after (.clearCall (hdr 0) 254#8) s).call.calls.map (·.number) = [1]
      ∧ (after (.clearCall (hdr 0) 254#8) s).order.pool.map (·.code) = [.lamp .off] := by decide +kernel

theorem test_attention_clauses :
    let s : State := { hall with call.calls := [call 1 3 .offered] }
    resultOf (.setAttention (hdr 1) 3#8) s = 0x0A#8 ∧ resultOf (.setAttention (hdr 0) 8#8) s = 3#8
      ∧ (after (.setAttention (hdr 0) 7#8) s).call.attention = 7
      ∧ (after (.setAttention (hdr 0) 3#8) s).call.calls.map (·.state) = [.waiting]
      ∧ (after (.setAttention (hdr 0) 2#8) s).call.calls.map (·.state) = [.offered] := by decide +kernel

/-! ### Orders, the link and the ports -/

theorem test_clear_halt_clauses :
    let s : State := { hall with order.halt := true, order.pool := [order 2 2] }
    resultOf (.clearHalt (hdr 1)) s = 0x0A#8 ∧ (after (.clearHalt (hdr 0)) s).order.halt = false
      ∧ (after (.clearHalt (hdr 0)) s).order.pool.map (·.inFlight) = [true]
      ∧ (after (.clearHalt (hdr 0)) { s with order.halt := false }).order.pool.map (·.inFlight) = [false] := by
  decide +kernel

/-- Relayed orders by the lines of R144; device 6 is a sign, device 5 the module of a strongroom door. -/
theorem test_relayed_order_clauses :
    let open_ : State := { hall with mgmt.wing.permission := List.replicate 16 0xFF#8 }
    hall.takes (toDevice 1 6)
      ∧ resultOf (.relayedOrder (toDevice 0 6) [0#8, 1#8]) bare = 6#8
      ∧ resultOf (.relayedOrder (toDevice 0 0) [0#8, 1#8]) hall = 2#8
      ∧ resultOf (.relayedOrder (toDevice 0 127) [0#8, 1#8]) hall = 2#8
      ∧ resultOf (.relayedOrder (toDevice 0 6) []) hall = 3#8 ∧ resultOf (.relayedOrder (toDevice 0 6) [0#8]) hall = 3#8
      ∧ resultOf (.relayedOrder (toDevice 0 6) (List.replicate 42 0#8)) hall = 3#8
      ∧ resultOf (.relayedOrder (toDevice 0 5) [0#8, 1#8]) hall = 0x0A#8
      ∧ resultOf (.relayedOrder (toDevice 0 6) [0#8, 1#8]) alarmed = 5#8
      ∧ (after (.relayedOrder (toDevice 1 6) [0#8, 1#8]) hall).counter .ordersDenied = 1
      ∧ resultOf (.relayedOrder (toDevice 0 6) [0#8, 1#8]) { hall with order.pool := List.replicate 12 (order 2 2) }
        = 0x0C#8
      ∧ (after (.relayedOrder (toDevice 1 6) (List.replicate 41 0#8)) open_).port.lineF.length = 1 := by
  unfold State.takes
  decide +kernel

theorem test_beats :
    let alone : State := { hall with port.link := .standAlone }
    hall.hears (hdr 0) ∧ alone.hears (toAll 0 15)
      ∧ (after (.beat (hdr 0) []) hall).port.beatTimer = some ⟨1000, 250000⟩
      ∧ (after (.beat (hdr 0) []) { hall with mgmt.wing.beatTimeout := 0 }).port.beatTimer = none
      ∧ (after (.beat (toAll 0 15) []) alone).port.link = .online
      ∧ (after (.beat (toAll 0 15) []) alone).port.notices.map (·.notice) = [.linkOnline 0]
      ∧ (after (.beat { hdr 0 with port := .d } []) alone).port.link = .standAlone := by
  unfold State.hears
  decide +kernel

theorem test_pauses :
    let s : State := { hall with port.pause := true }
    hall.hears (hdr 0) ∧ hall.hears (toAll 0 0) ∧ (after (.pause (hdr 0) []) hall).port.pause = true
      ∧ (after (.pause { hdr 0 with port := .d } []) hall).port.pause = false
      ∧ (after (.resume (toAll 0 1) []) s).port.pause = false
      ∧ (after (.resume (toAll 0 1) []) s).port.downQueue.map (·.hop) = [0#4] := by
  unfold State.hears
  decide +kernel

/-- A notice queue of two entries, the second of a higher priority. -/
def twoNotices : State := (hall.notify (.testStart 1)).notify .evacOff

/-- Each way in which a free port is granted. -/
theorem test_grants :
    let f := report 1 0 []
    let passing : State := twoNotices.putPassQueue .u [f]
    let both := passing.putAnswers .u ⟨[], [f]⟩
    (twoNotices.answers .u).ready = [] ∧ twoNotices.port.notices.map (twoNotices.eligible .u) = [true, true]
      ∧ (after (.portOutputGrant .u) twoNotices).port.notices.map (·.notice) = [.testStart 1]
      ∧ passing.arbiterMark .u = .own ∧ (after (.portOutputGrant .u) passing).port.upQueue = []
      ∧ (after (.portOutputGrant .u) { both with port.markU := .pass }).port.answersU.ready = []
      ∧ (after (.portOutputGrant .u) both).port.answersU.ready = [f]
      ∧ (after (.portOutputGrant .d) twoNotices).port.lineD = [] := by decide +kernel

/-- A pause holds a priority 3 notice back on U and a broadcast goes on D; on U only priority 0 is sent (R154, R156). -/
theorem test_grants_under_a_pause :
    let low : State := { (hall.notify (.testStart 1)) with port.pause := true }
    let all : State := { hall.notify (.callUnanswered 1 3 1 .assist 2 .waiting 1 false 1) with port.pause := true }
    (after (.portOutputGrant .u) low).port.notices.length = 1
      ∧ (after (.portOutputGrant .u) { twoNotices with port.pause := true }).port.notices.map (·.notice) = [.testStart 1]
      ∧ (after (.portOutputGrant .u) all).port.notices.map (fun e => (e.owedU, e.owedD)) = [(true, true)]
      ∧ (after (.portOutputGrant .d) all).port.notices.map (fun e => (e.owedU, e.owedD)) = [(true, false)] := by
  decide +kernel

/-- Notices into a queue that holds 63, a queue of 64 with two priorities, and one of 64 urgent entries. -/
theorem test_notice_queue :
    let e := Notice.entry (.testStart 1)
    let low : State := { hall with port.notices := List.replicate 63 (Notice.entry .evacOff) ++ [e] }
    let high : State := { hall with port.notices := List.replicate 64 (Notice.entry .evacOff) }
    ({ hall with port.notices := List.replicate 63 e }.notify .evacOff).port.notices.length = 64
      ∧ Notice.priority (.evacOn 0) < e.notice.priority
      ∧ (low.notify (.evacOn 0)).port.notices.getLast?.map (·.notice) = some (.evacOn 0)
      ∧ (low.notify (.evacOn 0)).counter .noticesDropped = 1
      ∧ high.port.notices.map (·.notice.priority) = List.replicate 64 0 ∧ (high.notify .evacOff).port.notices.length = 64
      ∧ (high.notify .evacOff).counter .noticesDropped = 1 := by decide +kernel

/-! ### Orders -/

/-- Requests for target 2 into a pool: a record in place, a rise to the tail of class 0, a fall to the tail of a lower
class that has room, and a new record beside one in flight (R135, R136). -/
theorem test_requests :
    let take := fun (c : OrderCode) (cls : Nat) (pool : List OrderRecord) =>
      (takeRequest ⟨2, c, cls, false⟩ pool).map fun x => (x.1.map fun r => (r.target, r.code, r.cls), x.2)
    let lock := fun (target cls : Nat) => (target, OrderCode.lock, cls)
    (∀ p, (OrderRequest.mk 2 .unlock 1 false).code ≠ .raw p)
      ∧ take .unlock 1 [order 9 0, order 2 1, order 6 1]
        = some ([lock 9 0, (2, .unlock, 1), lock 6 1], false)
      ∧ take .unlock 0 [order 9 0, order 2 1, order 6 1] = some ([lock 9 0, (2, .unlock, 0), lock 6 1], true)
      ∧ take .lock 1 [order 2 0, order 9 0, order 6 1] = some ([lock 9 0, lock 6 1, lock 2 1], false)
      ∧ take .lock 1 (order 2 0 :: List.replicate 24 (order 9 1))
        = some (lock 2 0 :: List.replicate 24 (lock 9 1), false)
      ∧ take .unlock 1 [{ order 2 1 with inFlight := true }] = some ([lock 2 1, (2, .unlock, 1)], false)
      ∧ take .hold 1 [order 2 1] = some ([lock 2 1, (2, .hold, 1)], false) := by
  intro take lock
  refine ⟨fun p h => (nomatch h), ?_, ?_, ?_, ?_, ?_, ?_⟩ <;> decide +kernel

/-- The limits of the classes at their ends, and NOTIFY kept set (R134, R136). -/
theorem test_request_limits :
    let take := fun (cls : Nat) (pool : List OrderRecord) => (takeRequest ⟨2, .lock, cls, false⟩ pool).isSome
    take 0 (List.replicate 31 (order 9 0)) = true ∧ take 0 (List.replicate 32 (order 9 0)) = false
      ∧ take 1 (List.replicate 23 (order 9 1)) = true ∧ take 1 (List.replicate 24 (order 9 1)) = false
      ∧ take 2 (List.replicate 11 (order 9 2)) = true ∧ take 2 (List.replicate 12 (order 9 2)) = false
      ∧ ((takeRequest ⟨2, .unlock, 1, false⟩ [{ order 2 1 with notify := true }]).map fun x => x.1.map (·.notify))
        = some [true] := by decide +kernel

/-- A send takes the first record that the halt lets go, under the tag of the counter, which goes on from 255 to 1 (R139,
R143). -/
theorem test_sends :
    let s : State := { hall with order.pool := [order 2 2, order 6 2], order.tagCounter := 255 }
    let t := s.lookForSend
    t.order.pool.map (fun r => (r.tag, r.inFlight)) = [(some 255, true), (none, false)] ∧ t.order.tagCounter = 1
      ∧ t.order.confirmTimer = some ⟨1000, 6250⟩ ∧ t.port.lineF.map (·.frame.tag) = [255#8]
      ∧ t.lookForSend.port.lineF.length = 1
      ∧ ({ s with order.halt := true } : State).lookForSend.order.pool.map (·.inFlight) = [false, false]
      ∧ ({ s with order.halt := true, order.pool := [order 2 1, order 6 2] } : State).lookForSend.inFlight.map (·.target)
        = some 2 := by decide +kernel

/-- A service takes the owed doors and then the owed signs in one round; a MISSING one and one without room stay owed,
and a disabled one is forgotten (R137). -/
theorem test_services :
    let s := ((hall.putDoor 0 { shutDoor with owed := true }).putDoor 31 { shutDoor with owed := true }).putSign 47
      { SignRecord.cold with owed := true }
    let gone := s.putCauses 5 { Causes.empty with missing := true }
    let full : State := { s with order.pool := List.replicate 23 (order 9 1) }
    let off := hall.putDoor 1 { shutDoor with owed := true }
    s.service.order.pool.map (·.target) = [2, 5, 6] ∧ (s.service.doorRecord 0).owed = false
      ∧ gone.service.order.pool.map (·.target) = [2, 6] ∧ (gone.service.doorRecord 31).owed = true
      ∧ (full.service.order.pool.drop 23).map (·.target) = [2] ∧ (full.service.signRecord 47).owed = true
      ∧ (off.service.doorRecord 1).owed = false ∧ off.service.order.pool = [] := by decide +kernel

/-- A request of a door that is owed and finds no record makes none and sends none, even with nothing in flight; one that
is not owed is marked, and its mark brings a service and a send (R135, R137). -/
theorem test_owed_requests :
    let full : State := { hall with order.pool := List.replicate 24 (order 9 1) }
    let owed := full.putDoor 0 { shutDoor with owed := true }
    (owed.requestDoor 0).port.lineF = [] ∧ ((owed.requestDoor 0).doorRecord 0).owed = true
      ∧ ((full.requestDoor 0).doorRecord 0).owed = true ∧ (full.requestDoor 0).port.lineF.length = 1
      ∧ 31 ∈ doorNumbers ∧ 47 ∈ signNumbers ∧ (full.signEntry 47).enabled = true ∧ (full.signRecord 47).owed = false
      ∧ ((full.requestSign 47).signRecord 47).owed = true
      ∧ (full.requestLamp 3 .busy).counter .ordersSkipped = 1 := by decide +kernel

/-! ### Timers and engines -/

theorem test_period_boundary :
    let s : State := { hall with sup.periodTimer := some ⟨0, 9⟩, sup.buffered := some (255, 6) }
    s.sup.sweep = none ∧ (after .periodBoundary s).sup.sweep = some 1 ∧ (after .periodBoundary s).sup.selector = .b
      ∧ (after .periodBoundary s).sup.missingLimit = 6
      ∧ (after .periodBoundary hall).sup.sweep = none := by decide +kernel

/-- A boundary serves owed objects when a door in FAULT is marked by it, and leaves them owed when none is. -/
theorem test_boundary_serves_faults :
    let s : State := { hall with sup.periodTimer := some ⟨0, 9⟩ }
    let owed := s.putDoor 31 { shutDoor with owed := true }
    let faulty := owed.putDoor 0 { shutDoor with state := some .fault }
    owed.sup.sweep = none ∧ faulty.sup.sweep = none ∧ (after .periodBoundary owed).order.pool = []
      ∧ ((after .periodBoundary owed).doorRecord 31).owed = true
      ∧ (after .periodBoundary faulty).order.pool.map (·.target) = [2, 5] := by decide +kernel

/-- Device 126 is not seen in its third of six periods and becomes MISSING; the sweep then ends. -/
theorem test_sweep_visits :
    let s : State := { hall with sup.sweep := some 126, sup.missingLimit := 3 }
    let t := s.putDevice 126 ⟨[false, false, true, true, true, true], .empty⟩
    t.missing 126 = false ∧ t.sup.missingLimit ≤ ([false, false, false, true, true, true] : List Bool).count false
      ∧ (after .sweepVisit t).missing 126 = true ∧ (after .sweepVisit t).sup.sweep = none
      ∧ (after .sweepVisit { t with sup.sweep := some 1 }).sup.sweep = some 2
      ∧ ((after .sweepVisit s).device 126).history = [false, true, true, true, true, true] := by decide +kernel

theorem test_sweep_restores :
    let s := { hall.putDevice 126 ⟨[true, true, true, false, false, false],
      { Causes.empty with missing := true }⟩ with sup.sweep := some 126, sup.missingLimit := 3 }
    let t := s.putMark .b 126 true
    s.missing 126 = true ∧ (after .sweepVisit t).missing 126 = false ∧ (after .sweepVisit s).missing 126 = true := by
  decide +kernel

/-- What MISSING does in RUNNING to a door's module, a sign's device, a call point and a module no door names, before
RUNNING to any, and what restoration does (R14, R15, R76, R128, R129). -/
theorem test_missing_devices :
    let lost := fun (s : State) (d : Nat) => s.becomeMissing d
    let cause : Causes := { Causes.empty with missing := true }
    let back := (hall.putCauses 6 cause).putSign 47 { SignRecord.cold with owed := true }
    (hall.deviceEntry 1).enabled = true ∧ (hall.deviceEntry 126).enabled = true
      ∧ noticesOf (lost hall 2) = [.trouble 2 (some .door) 1 cause none, .doorFault 0 2 .missing]
      ∧ ((lost hall 2).doorRecord 0).state = some .fault ∧ ((lost hall 6).signRecord 47).owed = true
      ∧ (lost hall 6).order.pool = [] ∧ noticesOf (lost hall 126) = [.trouble 126 (some .motion) 24 cause none]
      ∧ (noticesOf (lost (tables bare) 2)).length = 1
      ∧ (back.restoreDevice 6).zone.routeStale = true ∧ (back.restoreDevice 6).order.pool.map (·.target) = [6]
      ∧ ((hall.putCauses 1 cause).restoreDevice 1).zone.routeStale = false := by decide +kernel

theorem test_zone_timers :
    let s := hall.putZone 24 ⟨.alert, some ⟨0, 9⟩, none, none⟩
    let w := hall.putZone 1 ⟨.test, none, some ⟨0, 9⟩, none⟩
    (after (.doubleKnockWindowExpiry 24) s).fireState 24 = .normal
      ∧ (after (.doubleKnockWindowExpiry 24) s).port.notices.map (·.notice) = [.alertUnconfirmed 24 0]
      ∧ (after (.doubleKnockWindowExpiry 24) hall).port.notices = []
      ∧ (after (.walkTestTimerExpiry 1) w).port.notices.map (·.notice) = [.testEnd 1 .limit]
      ∧ (after (.walkTestTimerExpiry 1) hall).port.notices = [] := by decide +kernel

theorem test_door_timers :
    let s := hall.putDoor 0 { shutDoor with window := .open, pulseTimer := some ⟨0, 9⟩ }
    let o := hall.putDoor 0 { shutDoor with state := some .openAuth, heldTimer := some ⟨0, 9⟩ }
    ((after (.pulseTimerExpiry 0) s).doorRecord 0).window = .closed
      ∧ (after (.heldCompareA 0) o).port.notices.map (·.notice) = [.doorHeld 0 1 0 5]
      ∧ (after (.heldCompareA 0) (after (.heldCompareA 0) o)).port.notices.length = 1
      ∧ ((after (.heldCompareB 0) o).doorRecord 0).state = some .propped
      ∧ (after (.heldCompareB 0) hall).doorRecord 0 = shutDoor := by decide +kernel

theorem test_guard_delays :
    let x := hall.putGuard 1 ⟨.exiting, some ⟨0, 9⟩, none, none, none, 0⟩
    let n := hall.putGuard 1 ⟨.entering, none, some ⟨0, 9⟩, some 0, none, 0⟩
    ((after (.exitDelayExpiry 1) x).guardRecord 1).state = .armed
      ∧ (after (.exitDelayExpiry 1) (x.putOccupancy 1 ⟨1, 0, 0⟩)).port.notices.map (·.notice)
        = [.armFailed 1 .occupied none]
      ∧ noticesOf (after (.exitDelayExpiry 1) (x.putDoor 31 { shutDoor with state := some .ajar }))
        = [.armFailed 1 .doorOpen (some 31)]
      ∧ ((after (.entryDelayExpiry 1) n).guardRecord 1).source = some (.entryDelay, 0)
      ∧ (after (.entryDelayExpiry 1) hall).guardRecord 1 = GuardRecord.cold := by decide +kernel

/-- A call of priority 6 steps to 7; one of 7 stays; the end of its cycle leaves it UNANSWERED. -/
theorem test_escalation :
    let s : State := { hall with call.calls := [call 1 6 .offered, call 254 7 .waiting] }
    s.call.calls = [] ++ call 1 6 .offered :: [call 254 7 .waiting]
      ∧ (∀ x ∈ ([] ++ [call 254 7 .waiting] : List Call), x.number ≠ (call 1 6 .offered).number)
      ∧ (after (.escalationStep 1) s).call.calls.map (·.priority) = [7, 7]
      ∧ (after (.escalationStep 254) s).call.calls.map (·.priority) = [6, 7]
      ∧ (after (.escalationCycleEnd 254) s).call.calls.map (·.unanswered) = [false, true] := by decide +kernel

/-- An order in flight is sent a fourth time, and fails at the next expiry. -/
theorem test_confirmation_timer :
    let r : OrderRecord := { order 2 1 with tag := some 9, attempts := 2, inFlight := true }
    let s : State := { hall with order.pool := [r, order 6 1] }
    s.order.pool = [] ++ r :: [order 6 1] ∧ hall.inFlight = none
      ∧ (after .confirmationTimerExpiry s).port.lineF.map (·.frame.tag) = [9#8]
      ∧ (after .confirmationTimerExpiry (after .confirmationTimerExpiry s)).counter .ordersFailed = 1
      ∧ ((after .confirmationTimerExpiry (after .confirmationTimerExpiry s)).doorRecord 0).state = some .fault := by
  decide +kernel

/-- What the fourth expiry does by the order's code: DOOR-FAULT, SIGN-OUT, TROUBLE for a lamp, FAILED with the class 2 halt
(R76, R126, R142, R143, R145). -/
theorem test_failed_orders :
    let failing := fun (s : State) (target : Nat) (c : OrderCode) =>
      { s with order.pool := [{ order target 2 with
        code := c
        tag := some 9
        attempts := 3
        inFlight := true
        haltOnFail := true
        origin := .relayed .u 1#5 3#7 7#8 }] }
    let ends := fun (s : State) (target : Nat) (c : OrderCode) => after .confirmationTimerExpiry (failing s target c)
    let told := fun (s : State) (target : Nat) (c : OrderCode) => (noticesOf (ends s target c)).drop 1
    let waiting := hall.reserve .u (.forOrder 1#5 3#7 7#8)
    told hall 2 .lock = [.doorFault 0 2 .orderFailed] ∧ told hall 2 (.pulse 5) = [.doorFault 0 2 .orderFailed]
      ∧ told (hall.putDoor 0 { shutDoor with state := some .fault, fault := some .missing }) 2 .lock = []
      ∧ told hall 6 (.display .cross) = [.signOut 47 6 .cross]
      ∧ ((ends hall 6 (.display .cross)).signRecord 47).fault = true
      ∧ told (hall.putSign 47 { SignRecord.cold with fault := true }) 6 (.display .cross) = []
      ∧ told hall 3 (.lamp .off) = [.trouble 3 (some .help) 1 { Causes.empty with lampFault := true } none]
      ∧ told hall 2 (.lamp .off) = [] ∧ answer (ends waiting 6 (.raw [1#8])) = [0#8, 0x0D#8]
      ∧ (ends waiting 6 (.raw [1#8])).order.halt = true := by decide +kernel

theorem test_beat_timer :
    let s : State := { hall with port.beatTimer := some ⟨0, 250000⟩, port.pause := true, door.permit := some 31 }
    (after .beatTimerExpiry s).port.link = .standAlone ∧ (after .beatTimerExpiry s).port.pause = false
      ∧ (after .beatTimerExpiry s).door.permit = none
      ∧ (after .beatTimerExpiry s).port.notices.map (·.notice) = [.linkStandalone 10]
      ∧ (after .beatTimerExpiry hall).port.link = .online := by decide +kernel

/-- The pass at sign 47 with an evacuation in zone 1: its option leads into the fire and the sign shows the cross. -/
theorem test_sign_pass :
    let s : State := { alarmed with sign.pass := some 47, zone.routeStale := true }
    (after .signPassVisit s).order.pool.map (·.code) = [.display .cross] ∧ (after .signPassVisit s).sign.pass = none
      ∧ (after .signPassVisit s).zone.routeStale = false
      ∧ (after .signPassVisit { s with sign.repeatMark := true }).sign.pass = some 0
      ∧ (after .signPassVisit { s with sign.pass := some 46 }).sign.pass = some 47 := by decide +kernel

/-! ### Reports from the field -/

/-- Reports that are counted, one that is taken, and the last line of the worked case of chapter 2: a reading of 270 takes
the filtered value from 1555 to 1766 and the detector to ALARM. -/
theorem test_field_reports :
    let j : JudgeSet := ⟨2, 40, 80, 2⟩
    let s := (hall.putDeviceEntry 17 (dev .smoke 24)).putClassEntry 0
      ⟨true, some .smoke, false, 0, 120, 100, 200, 1, j, j, []⟩
    let d : Detector := ⟨.verify, 1920, 100, 200, 1555, 1, .normal, .above, some 270, some .night⟩
    let t := after (.fieldFrame (report 17 0 [0x01#8, 0x0E#8, 0x00#8]).received) (s.putDetector 17 (some d))
    (t.detector 17).map (·.filtered) = some 1766 ∧ t.detectorState 17 = some .alarm
      ∧ (report 1 0 [0x80#8]).payload.length ≤ 48
      ∧ (after (.fieldFrame (Frame.received { report 1 0 [] with kind := .order })) hall).counter .badFrameF = 1
      ∧ (after (.fieldFrame (report 0 0 []).received) hall).counter .unknownDevice = 1
      ∧ (after (.fieldFrame (report 127 0 []).received) hall).counter .unknownDevice = 1
      ∧ (after (.fieldFrame (report 1 0 []).received) hall).counter .badFrameF = 1
      ∧ (after (.fieldFrame (report 126 0 [0#8]).received) hall).mark .a 126 = true := by decide +kernel

/-- The layouts of the reports at the ends of their ranges (R176). -/
theorem test_report_layouts :
    readReport .smoke [0x03#8, 0xFF#8, 0x80#8] = some (.detector .smoke 1023 true false)
      ∧ readReport .smoke [0x04#8, 0#8, 0#8] = none ∧ readReport .smoke [0#8, 0#8] = none
      ∧ readReport .heat [0xFF#8, 0x40#8] = some (.detector .heat 255 false true) ∧ readReport .heat [0#8] = none
      ∧ readReport .mcp [0xC0#8] = some (.mcp true true) ∧ readReport .mcp [] = none
      ∧ readReport .motion [0x80#8, 9#8] = some (.motion true false) ∧ readReport .motion [] = none
      ∧ readReport .door [0x9C#8, 15#8, 15#8] = some (.door ⟨.open, true, true, true, 15, 15⟩)
      ∧ readReport .door [0x60#8, 0#8, 1#8] = some (.door ⟨.closed, false, false, false, 0, 1⟩)
      ∧ (∀ p ∈ [[0x10#8, 0#8, 0#8], [0xD0#8, 0#8, 0#8], [0x40#8, 0#8, 0#8], [0x70#8, 0#8, 0#8], [0x50#8, 16#8, 0#8],
          [0x50#8, 0#8, 16#8], [0x50#8, 0#8]], readReport .door p = none)
      ∧ readReport .help [2#8, 3#8] = some (.help (some .urgent) .busy) ∧ readReport .help [3#8, 0#8] = none
      ∧ readReport .help [0#8, 4#8] = none ∧ readReport .help [0#8] = none
      ∧ readReport .sign [0x14#8, 0x80#8] = some (.sign (.steady .down) true)
      ∧ readReport .sign [0x1C#8, 0x7F#8] = some (.sign (.flashing .down) false)
      ∧ (∀ n ∈ [0x02#8, 0x0F#8, 0x15#8, 0x17#8, 0x1D#8], readReport .sign [n, 0#8] = none)
      ∧ readReport .sign [1#8] = none := by decide +kernel

/-- An activated call point of a NORMAL zone, and of one in ALERT. -/
theorem test_call_point :
    let f := report 1 0 [0x80#8]
    let s := hall.putZone 1 ⟨.alert, some ⟨0, 9⟩, none, none⟩
    f.payload.length ≤ 48 ∧ f.kind = .report ∧ hall.running = true ∧ hall.enabledAs 1 .mcp = true
      ∧ (hall.deviceEntry 1).zone = 1 ∧ hall.fireState 1 = .normal ∧ s.fireState 1 = .alert
      ∧ (0x80#8 : Byte).getLsbD 7 = true
      ∧ (after (.fieldFrame f.received) hall).fireState 1 = .alarm
      ∧ (after (.fieldFrame f.received) s).zone.fireList = [1] := by decide +kernel

/-- The other rows of R47: one TEST-PASS while the flag was clear, nothing in ALARM and DISABLED, and the flag kept. -/
theorem test_call_point_elsewhere :
    let test := hall.putZone 1 { ZoneRecord.cold with fire := .test }
    let serve := fun (s : State) (on : Bool) => s.serveReport 1 (.mcp on false) .empty
    ¬(true = true ∧ (test.fireState 1 = .normal ∨ test.fireState 1 = .alert))
      ∧ noticesOf (serve test true) = [.testPass 1 1 none] ∧ (serve test true).activatedFlag 1 = true
      ∧ noticesOf (serve (serve test true) true) = [.testPass 1 1 none]
      ∧ noticesOf (serve (hall.putZone 1 .cold) true) = []
      ∧ (serve (hall.putZone 1 { ZoneRecord.cold with fire := .alarm }) true).zone.fireList = []
      ∧ (serve (serve hall false) false).activatedFlag 1 = false ∧ (serve hall false).fireState 1 = .normal := by
  decide +kernel

/-- A report's tamper flag and its watch copy: TROUBLE once, and a copy for a device that is then not in its normal state
or stands in a group of the mask (R7, R159). -/
theorem test_tamper_and_watch :
    let f := report 126 9 [0x40#8]
    let t := after (.fieldFrame f.received) hall
    let plain := after (.fieldFrame (report 126 9 [0#8]).received) hall
    noticesOf t = [.trouble 126 (some .motion) 24 { Causes.empty with tamper := true } none, .watchCopy 126 9 [0x40#8]]
      ∧ (noticesOf (after (.fieldFrame f.received) t)).length = 3 ∧ noticesOf plain = []
      ∧ noticesOf (after (.fieldFrame (report 126 9 [0#8]).received) { hall with mgmt.wing.watchMask := 0x80#8 })
        = [.watchCopy 126 9 [0#8]]
      ∧ noticesOf (after (.fieldFrame (report 126 9 [0#8]).received) { hall with mgmt.wing.watchMask := 0x7F#8 }) = []
      ∧ noticesOf (after (.fieldFrame (report 126 9 [0#8]).received) { hall with mgmt.wing.watchMode := .all })
        = [.watchCopy 126 9 [0#8]] := by decide +kernel

/-- The tamper flag of a DOOR module that no enabled door names enters its cause set (log 47). -/
theorem test_tamper_without_a_door :
    let s := { hall with mgmt.doors := place doorTable 0 .cold }
    let t := after (.fieldFrame (report 2 0 [0x64#8, 0#8, 0#8]).received) s
    t.causes 2 = { Causes.empty with tamper := true } ∧ t.doorRecord 0 = s.doorRecord 0 := by decide +kernel

/-- The notices and the egress door of an alarm by a call point (R48 steps 3, 5 and 8). -/
theorem test_call_point_notices :
    let t := after (.fieldFrame (report 1 0 [0x80#8]).received) hall
    (hall.port.notices.filter (·.notice.priority == 0)).length ≤ 62 ∧ hall.zone.evacuation = false
      ∧ t.port.notices.map (·.notice) = [.evacOn 1, .fireAlarm 1 .gallery 1 (some 0) 1]
      ∧ ((t.doorRecord 0).desired, (t.doorRecord 0).cause) = (.unlock, .fire)
      ∧ t.order.pool.map (fun r => (r.target, r.code)) = [(2, .unlock)] := by decide +kernel

/-- The wing with SMOKE detectors 10 and 11 in DOUBLE zone 24 and FIRE door 1 between zones 1 and 24, its contact open. -/
def smoky : State :=
  let j : JudgeSet := ⟨0, 40, 80, 1⟩
  let s := (hall.putClassEntry 0 ⟨true, some .smoke, false, 20, 100, 50, 200, 1, j, ⟨0, 40, 80, 2⟩, []⟩).putDeviceEntry 10
    (dev .smoke 24)
  let t := (s.putDeviceEntry 11 (dev .smoke 24)).putDoorEntry 1 ⟨true, false, false, 4, .fire, 1, 24, 0, 9, []⟩
  t.putDoor 1 { shutDoor with state := some .shut, commanded := some .release, contact := some .open }

/-- The wing with detector 10 in a state. -/
def sensed (x : DetectorState) : State :=
  smoky.putDetector 10 (some { aboveDetector with state := x, baseline := 1600, filtered := 0, verify := 0 })

/-- What a reading makes of detector 10 in QUIET: its state, with fault, no reading, below the floor, at each level
and at the top; by night two readings above it raise it. -/
theorem test_detector_moves :
    let s := sensed .quiet
    let move := fun (t : State) (r : Nat) => (t.serveReport 10 (.detector .smoke r false false) .empty).detectorState 10
    s.detector 10 = some { aboveDetector with state := .quiet, baseline := 1600, filtered := 0, verify := 0 }
      ∧ [0, 19, 20, 139, 140, 179, 180, 1022, 1023].map (move s)
        = [.trouble, .trouble, .quiet, .quiet, .pre, .pre, .verify, .verify, .verify].map some
      ∧ move { s with mgmt.mode := .day } 180 = some .alarm
      ∧ (s.serveReport 10 (.detector .smoke 100 true false) .empty).detectorState 10 = some .trouble := by decide +kernel

/-- Drift by a reading of 120 with a baseline of 1600 and a window of 255: five sixteenths. A movement held at a limit
brings COMP_LIMIT in, one strictly between them takes it out, and a limit taken up that brings it in and a movement that
takes it out tell nothing (R36 to R38, log 40). -/
theorem test_drift :
    let s := (sensed .quiet).putClassEntry 0
      ⟨true, some .smoke, true, 20, 100, 50, 200, 255, ⟨0, 40, 80, 1⟩, ⟨0, 40, 80, 1⟩, []⟩
    let det := { aboveDetector with state := .quiet, baseline := 1600, lastNormal := some 120 }
    let drifted := fun (x : Detector) => (s.putDetector 10 (some x)).drift 10
    s.running = true ∧ (s.deviceEntry 10).enabled = true ∧ (s.deviceEntry 10).kind = some .smoke
      ∧ ((drifted det).detector 10).map (·.baseline) = some 1605 ∧ noticesOf (drifted det) = []
      ∧ ((drifted { det with state := .pre }).detector 10).map (·.baseline) = some 1600
      ∧ ((drifted { det with baseline := 3196, lastNormal := some 300 }).detector 10).map (·.baseline) = some 3200
      ∧ ((drifted { det with baseline := 3196, lastNormal := some 300 }).causes 10).compLimit = true
      ∧ ((drifted { det with baseline := 3216, limitHigh := 210, lastNormal := some 100 }).detector 10).map (·.baseline)
        = some 3175
      ∧ noticesOf (drifted { det with baseline := 3216, limitHigh := 210, lastNormal := some 100 }) = []
      ∧ (hall.drift 126).sup = hall.sup := by decide +kernel

/-- What MISSING does to a detector: TROUBLE with its notice, and nothing in ALARM but the cause (R34, log 30). -/
theorem test_missing_detectors :
    let cause : Causes := { Causes.empty with missing := true }
    noticesOf ((sensed .pre).becomeMissing 10) = [.trouble 10 (some .smoke) 24 cause (some .trouble)]
      ∧ (((sensed .pre).becomeMissing 10).detector 10).map (·.lastCompare) = some .unordered
      ∧ noticesOf ((sensed .alarm).becomeMissing 10) = [.trouble 10 (some .smoke) 24 cause (some .alarm)]
      ∧ (((sensed .alarm).becomeMissing 10).detector 10).map (·.lastCompare) = some .above := by decide +kernel

/-- The notices of an entry to PRE, of one to TROUBLE and of a pass of a walk test. -/
theorem test_detector_notices :
    let s := { sensed .quiet with mgmt.mode := .day }
    let test := s.putZone 24 { ZoneRecord.cold with fire := .test }
    noticesOf (s.serveReport 10 (.detector .smoke 140 false false) .empty) = [.detectorPre 10 24 140 640 .day]
      ∧ noticesOf (s.serveReport 10 (.detector .smoke 19 false false) .empty)
        = [.trouble 10 (some .smoke) 24 { Causes.empty with low := true } (some .trouble)]
      ∧ noticesOf (test.serveReport 10 (.detector .smoke 180 false false) .empty) = [.testPass 10 24 (some 1280)]
      ∧ (test.serveReport 10 (.detector .smoke 180 false false) .empty).detectorState 10 = some .quiet := by
  decide +kernel

/-- Detectors are returned in their own zone alone, and from ALARM alone. -/
theorem test_detectors_returned :
    let s := (sensed .alarm).putDetector 11 (some { aboveDetector with state := .pre })
    ((s.returnDetectors 24).detector 10).map (·.filtered) = some 0
      ∧ (s.returnDetectors 24).detectorState 10 = some .quiet ∧ (s.returnDetectors 24).detectorState 11 = some .pre
      ∧ (s.returnDetectors 1).detectorState 10 = some .alarm := by decide +kernel

/-- The open fire door joins zones 1 and 24; a walk test in zone 24 parts them. -/
theorem test_groups :
    1 ∈ zoneNumbers ∧ 24 ∈ zoneNumbers ∧ smoky.group 1 = [1, 24] ∧ smoky.group 24 = [1, 24] ∧ hall.group 24 = [24]
      ∧ (smoky.putZone 24 { ZoneRecord.cold with fire := .test }).group 1 = [1] := by decide +kernel

/-- A first knock, a second of the zone, and a second that is the knock of a SINGLE zone joined to it. -/
theorem test_knocks :
    let one := sensed .alarm
    let two := (one.putDetector 11 (some aboveDetector)).putZone 24 ⟨.alert, some ⟨0, 9⟩, none, none⟩
    let single := (one.putZone 24 ⟨.alert, some ⟨0, 9⟩, none, none⟩).putDeviceEntry 9 (dev .smoke 1)
    let joined := single.putDetector 9 (some aboveDetector)
    24 ∈ zoneNumbers ∧ (one.port.notices.filter (·.notice.priority == 0)).length = 0
      ∧ (one.knock 24 10).zoneRecord 24 = ⟨.alert, some ⟨1000, 3000000⟩, none, none⟩
      ∧ noticesOf (one.knock 24 10) = [.fireAlert 24 .gallery 10]
      ∧ (two.knock 24 11).zoneRecord 24 = ⟨.alarm, none, none, some 11⟩
      ∧ noticesOf (two.knock 24 11) = [.evacOn 24, .fireAlarm 24 .gallery 11 none 24]
      ∧ (joined.knock 1 9).zone.fireList = [1, 24] := by decide +kernel

/-- A report of the module of a door. -/
def doorReport (c : Contact) (exit : Bool) (ab ba : Nat) : DoorReport := ⟨c, true, exit, false, ab, ba⟩

/-- A SECURED door is forced, or opens by its pulse window; an open one closes; and an exit request asks for a PULSE. -/
theorem test_door_reports :
    let opened := hall.putDoor 0 { shutDoor with window := .open, pulseTimer := some ⟨0, 9⟩ }
    let propped := hall.putDoor 31 { shutDoor with state := some .propped, contact := some .open }
    let full : State := { hall with order.pool := List.replicate 32 (order 9 0) }
    let on := fun (s : State) (n : Nat) (q : DoorReport) => (s.applyDoorReport n q).1
    ((on hall 0 (doorReport .open false 0 0)).doorRecord 0).state = some .forced
      ∧ noticesOf (on hall 0 (doorReport .open false 0 0)) = [.doorForced 0 .egress 1 0 .night]
      ∧ ((on opened 0 (doorReport .open false 0 0)).doorRecord 0).heldTimer = some ⟨1000, 750000⟩
      ∧ ((on opened 0 (doorReport .open false 0 0)).doorRecord 0).window = .closed
      ∧ ((on propped 31 (doorReport .closed false 0 0)).doorRecord 31).state = some .secured
      ∧ noticesOf (on propped 31 (doorReport .closed false 0 0)) = [.doorClosed 31 24 1]
      ∧ ((on hall 0 (doorReport .closed true 0 0)).doorRecord 0).window = .pending
      ∧ ((on hall 31 (doorReport .closed true 0 0)).doorRecord 31).window = .closed
      ∧ (on full 0 (doorReport .closed true 0 0)).counter .ordersSkipped = 1 := by decide +kernel

/-- Passages A to B and B to A of a door with counted side A, at both ends of the occupancy. -/
theorem test_passages :
    let on := fun (n ab ba : Nat) =>
      ((hall.putOccupancy 1 ⟨n, 254, 254⟩).applyDoorReport 0 (doorReport .closed false ab ba)).1
    (on 7 7 1).occupancy 1 = ⟨1, 254, 254⟩ ∧ (on 7 9 0).occupancy 1 = ⟨0, 255, 254⟩
      ∧ noticesOf (on 7 9 0) = [.occupancyClamp 1 false 2] ∧ (on 4090 0 15).occupancy 1 = ⟨4095, 254, 255⟩
      ∧ noticesOf (on 4090 0 15) = [.occupancyClamp 1 true 10] := by decide +kernel

/-- Motion by night, in an empty zone and in an ARMED one. -/
theorem test_motion_reports :
    let t := (hall.putDeviceEntry 126 (dev .motion 1)).serveReport 126 (.motion true false) .empty
    let armed := hall.putGuard 24 { GuardRecord.cold with state := .armed }
    noticesOf t = [.presence 1 126] ∧ noticesOf (t.serveReport 126 (.motion true false) .empty) = [.presence 1 126]
      ∧ ((armed.serveReport 126 (.motion true false) .empty).guardRecord 24).source = some (.motion, 126)
      ∧ ((armed.serveReport 126 (.motion false true) .empty).guardRecord 24).source = some (.tamper, 126) := by
  decide +kernel

/-- The forcing of door 0 in ARMED zone 1, ignored while the door is desired for FIRE; and a module no door has. -/
theorem test_door_judged :
    let armed := hall.putGuard 1 { GuardRecord.cold with state := .armed }
    let fire := armed.putDoor 0 { shutDoor with desired := .unlock, cause := .fire }
    let q := doorReport .open false 0 0
    0 ∈ doorNumbers ∧ (armed.doorEntry 0).enabled = true ∧ (armed.doorEntry 0).module = 2
      ∧ (∀ k < 0, (armed.doorEntry k).enabled = true → (armed.doorEntry k).module ≠ 2)
      ∧ (∀ n ∈ doorNumbers, (armed.doorEntry n).enabled = true → (armed.doorEntry n).module ≠ 126)
      ∧ ((armed.serveReport 2 (.door q) .empty).guardRecord 1).source = some (.forced, 0)
      ∧ ((fire.serveReport 2 (.door q) .empty).guardRecord 1).source = none
      ∧ ((fire.serveReport 2 (.door { q with tamper := true }) .empty).guardRecord 1).source = some (.tamper, 2) := by
  decide +kernel

/-- An entry door starts the entry delay, and a press by night is a source of its own. -/
theorem test_entry_and_press :
    let s := hall.putDoorEntry 0 ⟨true, false, true, 2, .egress, 1, 0, 5, 30, []⟩
    let armed := s.putGuard 1 { GuardRecord.cold with state := .armed }
    let t := armed.serveReport 2 (.door (doorReport .open false 0 0)) .empty
    (t.guardRecord 1).entering = some 0 ∧ (t.guardRecord 1).entryTimer = some ⟨1000, 500000⟩
      ∧ ((armed.serveReport 3 (.help (some .assist) .off) .empty).guardRecord 1).source = some (.help, 3)
      ∧ ((armed.serveReport 3 (.help none .off) .empty).guardRecord 1).source = none := by decide +kernel

/-- Sixteen WAITING calls of priority 3 but the last two, which have 1; numbers 1 to 16, points 101 to 116. -/
def crowd : State :=
  { hall with
    call.calls := (List.range 16).map fun i =>
      { call (i + 1) (if i < 14 then 3 else 1) .waiting with point := 101 + i }
    call.nextNumber := 254 }

/-- The number 254 is free, and 1 to 16 are taken; the queue keeps its law. -/
theorem test_press_hypotheses :
    crowd.callLaw ∧ (∀ c ∈ crowd.call.calls, c.point ≠ 3) ∧ 16 ≤ crowd.call.calls.length
      ∧ (crowd.call.nextNumber - 1 + 0) % 254 + 1 = 254 ∧ (crowd.call.nextNumber - 1 + 1) % 254 + 1 = 1
      ∧ (crowd.call.nextNumber - 1 + 17) % 254 + 1 = 17 := by
  refine ⟨?_, by decide +kernel, by decide +kernel, by decide +kernel, by decide +kernel, by decide +kernel⟩
  unfold State.callLaw
  decide +kernel

/-- A press joins the live call of its point, repeats on a TAKEN one, and creates a call with the first free number. -/
theorem test_presses :
    let s : State := { hall with call.calls := [call 1 2 .waiting], call.attention := 7 }
    let taken : State := { s with call.calls := [call 1 2 .taken] }
    let wrapped : State := { s with call.calls := [{ call 254 2 .waiting with point := 9 }], call.nextNumber := 254 }
    (s.press 3 .urgent).call.calls.map (fun c => (c.press, c.kind, c.priority)) = [(2, .urgent, 5)]
      ∧ noticesOf (taken.press 3 .urgent) = [.repeatPress 1 3 1 .urgent]
      ∧ (wrapped.press 3 .assist).call.calls.map (·.number) = [254, 1] ∧ (wrapped.press 3 .assist).call.nextNumber = 2
      ∧ (wrapped.press 3 .assist).call.calls.map (·.priority) = [2, 2] := by decide +kernel

/-- A full queue loses a press of priority 1, and one of priority 2 evicts the youngest call of priority 1. -/
theorem test_full_call_queue :
    let low : State := { crowd with mgmt.wing.assistBase := 1 }
    (low.press 3 .assist).counter .callsLost = 1 ∧ (low.press 3 .assist).call.calls.length = 16
      ∧ (low.press 3 .assist).order.pool.map (fun r => (r.target, r.code)) = [(3, .lamp .busy)]
      ∧ ((crowd.press 3 .assist).call.calls.map (·.number)).drop 14 = [15, 254]
      ∧ (noticesOf (crowd.press 3 .assist)).head? = some (.callDropped 16 116 1 .assist 1 3) := by decide +kernel

/-- A call that reaches 7 withdraws the one OFFERED below it and is offered; none is at its attention level. -/
theorem test_offers :
    let old := [call 1 3 .offered, { call 254 6 .waiting with point := 4 }]
    let s : State := { hall with call.calls := [call 1 3 .offered, { call 254 7 .waiting with point := 4 }] }
    s.callLaw ∧ s.call.calls.Pairwise (fun a b => ¬(a.state = .offered ∧ b.state = .offered))
      ∧ noticesOf (s.judgeOffers old) = [.callWithdrawn 1 .preEmpted, .callOffer 254 4 1 .assist 7 1 false false]
      ∧ s.judgeOffers s.call.calls = s
      ∧ ({ hall with call.calls := [call 1 3 .waiting], call.attention := 3 } : State).offeringCheck.port.notices = [] := by
  refine ⟨?_, by decide +kernel, by decide +kernel, by decide +kernel, by decide +kernel⟩
  unfold State.callLaw
  decide +kernel

/-- An echo other than the commanded display, with and without a SHOW order that stands, and a lamp that fails. -/
theorem test_sign_reports :
    let s := hall.putSign 47 { SignRecord.cold with commanded := some (.steady .left) }
    let shown : State := { s with order.pool := [{ order 6 1 with code := .display .cross }] }
    let q := Report.sign .dark false
    1 ≤ 6 ∧ 6 ≤ 126 ∧ 47 ∈ signNumbers ∧ (s.signEntry 47).enabled = true ∧ (s.signEntry 47).device = 6
      ∧ (∀ k < 47, (s.signEntry k).enabled = true → (s.signEntry k).device ≠ 6)
      ∧ (∀ n ∈ signNumbers, (s.signEntry n).enabled = true → (s.signEntry n).device ≠ 126)
      ∧ noticesOf (s.serveReport 126 (.sign .dark true) .empty) = []
      ∧ ((s.serveReport 6 q .empty).signRecord 47).commanded = none
      ∧ (s.serveReport 6 q .empty).zone.routeStale = true
      ∧ ((shown.serveReport 6 q .empty).signRecord 47).commanded = some (.steady .left)
      ∧ ((shown.serveReport 6 q .empty).signRecord 47).echo = some .dark
      ∧ noticesOf (s.serveReport 6 (.sign (.steady .left) true) .empty)
        = [.trouble 6 (some .sign) 1 { Causes.empty with signFault := true } none] := by decide +kernel

/-- A record in flight with tag 9 for a target. -/
def flying (target : Nat) (c : OrderCode) : OrderRecord :=
  { order target 1 with code := c, tag := some 9, attempts := 1, inFlight := true, notify := true }

/-- The wing with such a record in the pool behind one that waits. -/
def confirming (s : State) (r : OrderRecord) : State := { s with order.pool := [order 9 0, r] }

/-- The record in flight splits the pool; a report without its tag or of another device leaves the pool as it is. -/
theorem test_confirmation_hypotheses :
    let r := flying 2 .lock
    let s := confirming hall r
    s.order.pool = [order 9 0] ++ r :: [] ∧ r.inFlight = true ∧ (∀ x ∈ [order 9 0], x.inFlight = false)
      ∧ (∀ x ∈ hall.order.pool, x.inFlight = false)
      ∧ (s.candidate 2 0#8 []).order.pool.length = 2 ∧ (s.candidate 2 8#8 []).order.pool.length = 2
      ∧ (s.candidate 6 9#8 []).order.pool.length = 2
      ∧ (s.candidate 2 9#8 []).order.pool.map (·.target) = [9] := by decide +kernel

/-- A confirmed LOCK ends the FAULT of a door, and a confirmed PULSE opens its window; each is told by ORDER-DONE. -/
theorem test_door_orders_confirmed :
    let faulty := hall.putDoor 0 { shutDoor with state := some .fault, commanded := none, fault := some .orderFailed }
    let pending := hall.putDoor 0 { shutDoor with window := .pending }
    let locked := (confirming faulty (flying 2 .lock)).candidate 2 9#8 []
    let pulsed := (confirming pending (flying 2 (.pulse 5))).candidate 2 9#8 []
    (locked.doorRecord 0).state = some .secured ∧ (locked.doorRecord 0).commanded = some .lock
      ∧ noticesOf locked = [.doorRestored 0 2, .orderDone 2 .lock 1 2]
      ∧ (pulsed.doorRecord 0).window = .open ∧ (pulsed.doorRecord 0).pulseTimer = some ⟨1000, 125000⟩
      ∧ noticesOf pulsed = [.orderDone 2 (.pulse 5) 1 2] := by decide +kernel

/-- A confirmed SHOW ends the fault of a sign and asks for the display it should have; it asks for none while the sign is
owed. -/
theorem test_show_confirmed :
    let faulty := hall.putSign 47 { SignRecord.cold with desired := some .cross, fault := true }
    let t := (confirming faulty (flying 6 (.display .dark))).candidate 6 9#8 []
    let owed := hall.putSign 47 { SignRecord.cold with desired := some .cross, owed := true }
    let u := (confirming owed { flying 6 (.display .dark) with notify := false }).candidate 6 9#8 []
    (t.signRecord 47).commanded = some .dark ∧ (t.signRecord 47).fault = false
      ∧ noticesOf t = [.signRestored 47 6, .orderDone 6 (.display .dark) 1 2]
      ∧ t.order.pool.map (·.code) = [.lock, .display .cross]
      ∧ (u.signRecord 47).commanded = some .dark := by decide +kernel

/-- A confirmed LAMP clears LAMP_FAULT, and a confirmed RAW order of station 1 is answered with the report's bytes. -/
theorem test_lamp_and_raw_confirmed :
    let s := hall.putCauses 3 { Causes.empty with lampFault := true }
    let t := (confirming s { flying 3 (.lamp .off) with notify := false }).candidate 3 9#8 []
    let raw := { flying 6 (.raw [1#8]) with origin := .relayed .u 1#5 3#7 7#8, notify := false }
    let u := (confirming (hall.reserve .u (.forOrder 1#5 3#7 7#8)) raw).candidate 6 9#8 [1#8, 2#8]
    t.causes 3 = .empty ∧ noticesOf t = [.trouble 3 (some .help) 1 .empty none]
      ∧ answer u = [0#8, 0#8, 1#8, 2#8] ∧ u.port.answersU.reserved = [] := by decide +kernel

/-! ### Laws -/

/-- A step that executes the command in front. -/
theorem steps (c : Instr) (s : State) (h : isNext (exec c { s with pending := [] }) = true) :
    ∃ t, step { s with pending := [c] } = .next t := by
  show ∃ t, exec c { s with pending := [] } = .next t
  cases hx : exec c { s with pending := [] } with
  | next t => exact ⟨t, rfl⟩
  | fault f => cases f
  | refused r => simp [hx, isNext] at h

/-- A pool with a record in flight, and a call OFFERED: the order, call and offering laws hold and a step follows. -/
theorem test_order_and_call_laws :
    let s : State := { hall with
      order.pool := [{ order 2 0 with inFlight := true }, order 6 1]
      call.calls := [call 1 3 .offered, { call 254 7 .taken with point := 4 }] }
    s.orderLaw ∧ s.callLaw ∧ s.offerLaw
      ∧ (∃ t, step { s with pending := [.confirmationTimerExpiry] } = .next t)
      ∧ (after (.escalationStep 1) s).call.calls.map (fun c => (c.number, c.point, c.priority))
        = [(1, 3, 4), (254, 4, 7)] := by
  refine ⟨?_, ?_, ?_, steps _ _ (by decide +kernel), by decide +kernel⟩
  · unfold State.orderLaw; decide +kernel
  · unfold State.callLaw; decide +kernel
  · unfold State.offerLaw; decide +kernel

/-- A zone outside the table has no fire state. -/
theorem fireState_outside (s : State) {z : Nat} (h : 25 ≤ z) : s.fireState z = .disabled := by
  unfold State.fireState State.zoneRecord
  rw [slot_outside _ _ _ h]
  rfl

/-- Zone 1 in ALARM, zone 24 ARMED and full, and the egress door RELEASED. -/
def burning : State :=
  ((alarmed.putGuard 24 { GuardRecord.cold with state := .armed }).putOccupancy 1 ⟨4095, 255, 0⟩).putDoor 0
    { shutDoor with state := some .released, desired := .unlock, cause := .fire, commanded := some .unlock }

/-- The laws of guarding and of the fire zone list hold, and a step follows. -/
theorem test_fire_laws :
    burning.guardLaw ∧ burning.fireListLaw
      ∧ ∃ t, step { burning with pending := [.resetZone (hdr 0) 1#8] } = .next t := by
  refine ⟨fun z hz => ?_, ⟨by decide +kernel, fun z => ?_, by decide +kernel, .inl (by decide +kernel)⟩,
    steps _ _ (by decide +kernel)⟩
  · by_cases h : z < 25
    · have : ∀ z < 25, burning.fireState z = .alarm → (burning.guardRecord z).state = .disarmed := by decide +kernel
      exact this z h hz
    · rw [fireState_outside _ (by omega)] at hz
      cases hz
  · by_cases h : z < 25
    · have : ∀ z < 25, z ∈ burning.zone.fireList ↔ burning.fireState z = .alarm := by decide +kernel
      exact this z h
    · have : burning.zone.fireList = [1] := by decide +kernel
      rw [fireState_outside _ (by omega), this]
      simp
      omega

/-- A counted zone at its top occupancy, and zones that are not counted: the occupancy law holds and a step follows. -/
theorem test_occupancy_law :
    burning.occupancyLaw ∧ ∃ t, step { burning with pending := [.resetOccupancy (hdr 0) 1#8] } = .next t := by
  refine ⟨fun z => ?_, steps _ _ (by decide +kernel)⟩
  by_cases h : z < 25
  · have : ∀ z < 25, (burning.occupancy z).count ≤ 4095 ∧ (burning.occupancy z).undercount ≤ 255
        ∧ (burning.occupancy z).overcount ≤ 255 ∧ (burning.counted z = false → burning.occupancy z = ⟨0, 0, 0⟩) := by
      decide +kernel
    exact this z h
  · have : burning.occupancy z = ⟨0, 0, 0⟩ := by
      unfold State.occupancy
      exact slot_outside _ _ _ (by omega)
    simp [this]

/-- The law of fire release holds, and a step follows. -/
theorem test_release_law :
    burning.releaseLaw ∧ ∃ t, step { burning with pending := [.resetZone (hdr 0) 1#8] } = .next t := by
  refine ⟨⟨?_, ?_, fun _ _ => doors_modules, ?_, .inl (by decide +kernel)⟩, steps _ _ (by decide +kernel)⟩
  · intro z d _ _ he hk _
    rcases doors_enabled he with rfl | rfl
    · exact .inl (by decide +kernel)
    · exact absurd hk (by decide +kernel)
  · intro d he
    rcases doors_enabled he with rfl | rfl <;> decide +kernel
  · intro d h
    by_cases hd : d < 32
    · have : ∀ d < 32, (burning.doorRecord d).heldTimer = none := by decide +kernel
      exact absurd (this d hd) h
    · unfold State.doorRecord at h
      rw [slot_outside _ _ _ (by omega)] at h
      exact absurd rfl h

/-- A relayed order of station 1 in the pool, with its answer entry reserved. -/
def relaying : State :=
  { hall.reserve .u (.forOrder 1#5 3#7 7#8) with
    order.pool := [{ order 6 2 with origin := .relayed .u 1#5 3#7 7#8 }] }

/-- Zone 1 in ALARM, sign 47 owed nothing and showing the cross its evacuation asks for. -/
def signed : State :=
  alarmed.putSign 47 { SignRecord.cold with desired := some .cross, commanded := some .cross }

/-- The only enabled sign of the wing is sign 47. -/
theorem signs_enabled {n : Nat} (h : (slot signTable n .cold).enabled = true) : n = 47 := by
  by_cases hn : n < 48
  · have : ∀ n < 48, (slot signTable n .cold).enabled = true → n = 47 := by decide +kernel
    exact this n hn h
  · rw [slot_outside _ _ _ (by omega)] at h
    cases h

/-- The cross is no arrow. -/
theorem cross_leadsOut (s : State) (n : Nat) : s.leadsOut n (some .cross) := fun _ _ h => by
  simp [Display.arrow] at h

/-- The sign law holds in RUNNING during an evacuation with route-stale clear, and a step follows. -/
theorem test_sign_law :
    signed.signLaw ∧ signed.running = true ∧ signed.zone.evacuation = true ∧ signed.zone.routeStale = false
      ∧ signed.missing (signed.signEntry 47).device = false
      ∧ ∃ t, step { signed with pending := [.resetZone (hdr 0) 1#8] } = .next t := by
  refine ⟨⟨fun n h => ?_, ⟨fun a b ha hb _ => ?_, fun n => ?_⟩, fun n h => ?_, fun _ _ n he _ _ => ?_⟩, by decide +kernel,
    by decide +kernel, by decide +kernel, by decide +kernel, steps _ _ (by decide +kernel)⟩
  · exact absurd h (by simp [show signed.sign.pass = none by decide +kernel])
  · rw [signs_enabled ha, signs_enabled hb]
  · show (((slot signTable n .cold).slots.filterMap id).map (·.arrow)).Nodup
    by_cases hn : n < 48
    · have : ∀ n < 48, (((slot signTable n .cold).slots.filterMap id).map (·.arrow)).Nodup := by decide +kernel
      exact this n hn
    · rw [slot_outside _ _ _ (by omega)]
      decide
  · by_cases hn : n < 48
    · have : ∀ n < 48, (signed.signRecord n).fault = false := by decide +kernel
      rw [this n hn] at h
      cases h
    · unfold State.signRecord at h
      rw [slot_outside _ _ _ (by omega)] at h
      cases h
  · obtain rfl := signs_enabled he
    have hd : (signed.signRecord 47).desired = some .cross ∧ (signed.signRecord 47).commanded = some .cross := by
      decide +kernel
    rw [hd.1, hd.2]
    exact ⟨cross_leadsOut _ _, .inr (cross_leadsOut _ _)⟩

/-- Strongroom door 31 with its permit: the laws hold, and OPEN-DOOR puts a PULSE for its module into the pool. -/
theorem test_strongroom :
    let s : State := { hall with door.permit := some 31 }
    s.desiredLaw ∧ s.modulesLaw ∧ s.permitLaw ∧ (∃ t, step { s with pending := [.openDoor (hdr 0) 31#8] } = .next t)
      ∧ ((after (.openDoor (hdr 0) 31#8) s).doorEntry 31).enabled = true
      ∧ ((after (.openDoor (hdr 0) 31#8) s).doorEntry 31).kind = .strongroom
      ∧ (after (.openDoor (hdr 0) 31#8) s).order.pool.map (fun r => (r.target, r.code)) = [(5, .pulse 5)]
      ∧ (after (.setBadRequest (hdr 0) [0x0D#8, 31#8]) s).order.pool.map (·.target) = [5]
      ∧ (31#8 : Byte).toNat = 31 ∧ (hdr 0).destStation = s.stationNumber := by
  refine ⟨?_, fun _ _ => doors_modules, ?_, steps _ _ (by decide +kernel), by decide +kernel⟩
  · intro d he
    rcases doors_enabled he with rfl | rfl <;> decide +kernel
  · intro d hd
    obtain rfl : 31 = d := Option.some.inj hd
    decide +kernel

/-- The bounds of the queues hold, and a step follows. -/
theorem test_port_law :
    relaying.portLaw ∧ ∃ t, step { relaying with pending := [.portOutputGrant .u] } = .next t := by
  refine ⟨⟨by decide +kernel, by decide +kernel, by decide +kernel, by decide +kernel, by decide +kernel, ?_, ?_⟩,
    steps _ _ (by decide +kernel)⟩
  · intro c
    cases c <;> decide +kernel
  · intro p st d tag
    by_cases h : p = .u ∧ st = 1#5 ∧ d = 3#7 ∧ tag = 7#8
    · obtain ⟨rfl, rfl, rfl, rfl⟩ := h
      decide +kernel
    · have : (relaying.order.pool.filter (·.cameBy p st d tag)) = [] := by
        simp only [relaying, List.filter_cons, List.filter_nil, OrderRecord.cameBy]
        rw [if_neg]
        simp only [beq_iff_eq, Origin.relayed.injEq]
        exact fun e => h ⟨e.1.symm, e.2.1.symm, e.2.2.1.symm, e.2.2.2.symm⟩
      simp [this]

/-- A class entry inside its ranges, the last at the ends of some. -/
def someClass : ClassEntry :=
  ⟨true, some .smoke, true, 10, 100, 50, 200, 16, ⟨1, 60, 120, 3⟩, ⟨3, 1, 1022, 7⟩, []⟩

/-- The wing with one class loaded and one detector record. -/
def detecting : State := (hall.putClassEntry 7 someClass).putDetector 4 (some aboveDetector)

/-- The detector law holds, and a step follows. -/
theorem test_detector_law :
    detecting.detectorLaw ∧ ∃ t, step { detecting with pending := [.sweepVisit] } = .next t := by
  refine ⟨⟨fun c => ?_, fun d det h => ?_⟩, steps _ _ (by decide +kernel)⟩
  · have : detecting.classEntry c = (hall.putClassEntry 7 someClass).classEntry c := by
      simp only [detecting, State.classEntry, State.putDetector_mgmt]
    rw [this, State.putClassEntry_classEntry]
    split
    · simp [ClassEntry.law, JudgeSet.law, someClass]
    · by_cases hc : c < 8
      · have : ∀ c < 8, hall.classEntry c = .cold := by decide +kernel
        rw [this c hc]
        simp [ClassEntry.law, ClassEntry.cold]
      · have : hall.classEntry c = .cold := by
          unfold State.classEntry
          exact slot_outside _ _ _ (by omega)
        rw [this]
        simp [ClassEntry.law, ClassEntry.cold]
  · rw [detecting, State.putDetector_detector] at h
    split at h
    · cases h
      unfold Detector.law
      refine ⟨by decide, by decide, by decide, by decide, by decide, fun r hr => ?_⟩
      obtain rfl : 300 = r := Option.some.inj hr
      decide
    · by_cases hd : d < 127
      · have : ∀ d < 127, (hall.putClassEntry 7 someClass).detector d = none := by decide +kernel
        rw [this d hd] at h
        cases h
      · have : (hall.putClassEntry 7 someClass).detector d = none := by
          unfold State.detector
          exact slot_outside _ _ _ (by omega)
        rw [this] at h
        cases h

end Sys2Proof.Tests
end

section
/-! PROOFS. RESET-ZONE (R50): what the return of detectors leaves as it was, the conditions of a refusal, and the
request as a whole. -/

namespace Sys2Proof.Machine

section

variable (s : State)

/-- The return of detectors writes the Detector Evaluator alone. -/
@[simp] theorem returnDetectors_zone (z : Nat) : (s.returnDetectors z).zone = s.zone := by
  unfold State.returnDetectors
  generalize s.alarmDetectors z = l
  induction l generalizing s with
  | nil => rfl
  | cons d rest ih => exact ih _

@[simp] theorem returnDetectors_zoneRecord (z w : Nat) : (s.returnDetectors z).zoneRecord w = s.zoneRecord w :=
  congrArg (fun u : ZoneUnit => slot u.zones w .cold) (returnDetectors_zone s z)

theorem not_isZone_iff (z : Nat) : (!isZone z) = true ↔ z = 0 ∨ 24 < z := by
  simp only [isZone, Bool.not_eq_true', Bool.and_eq_false_iff, decide_eq_false_iff_not, Nat.not_le]
  omega

theorem fireStands_iff (z : Nat) :
    s.fireStands z = true ↔
      (∃ d ∈ s.alarmDetectors z, (s.detector d).map (·.lastCompare) = some .above)
        ∨ ∃ d ∈ deviceNumbers, (s.deviceEntry d).kind = some .mcp ∧ (s.deviceEntry d).zone = z
          ∧ s.activatedFlag d = true := by
  simp only [State.fireStands, Bool.or_eq_true, List.any_eq_true, Bool.and_eq_true, beq_iff_eq, and_assoc]

/-- The state that a reset of a zone leaves, its zone record and list read before the detectors return. -/
theorem resetZone_eq (z : Nat) :
    s.resetZone z =
      ({ (s.returnDetectors z).putZone z { s.zoneRecord z with fire := .normal, window := none } with
          zone.fireList := s.zone.fireList.filter (· != z) }.setStale.workOutAll).notify
        (.fireReset z (s.fireState z)) := by
  simp only [State.resetZone, State.putZone, returnDetectors_zoneRecord, returnDetectors_zone]

end

/-! ### RESET-ZONE, one equation for each case of R50 -/

section

variable {s : State} {z : Nat}

theorem resetZoneRequest_of_not_zone (hz : z = 0 ∨ 24 < z) : s.resetZoneRequest z = refuse s .badIndex := by
  rw [State.resetZoneRequest, if_pos ((not_isZone_iff z).mpr hz)]

theorem resetZoneRequest_of_zone (hz : ¬(z = 0 ∨ 24 < z)) :
    s.resetZoneRequest z =
      if s.fireState z = .alarm ∨ s.fireState z = .alert then
        if s.fireStands z then refuse s .stillActive else done (s.resetZone z)
      else done s := by
  rw [State.resetZoneRequest, if_neg (mt (not_isZone_iff z).mp hz)]

theorem resetZoneRequest_of_no_fire (hz : ¬(z = 0 ∨ 24 < z))
    (hf : ¬(s.fireState z = .alarm ∨ s.fireState z = .alert)) :
    s.resetZoneRequest z = done s := by
  rw [resetZoneRequest_of_zone hz, if_neg hf]

theorem resetZoneRequest_of_fireStands (hz : ¬(z = 0 ∨ 24 < z))
    (hf : s.fireState z = .alarm ∨ s.fireState z = .alert) (hs : s.fireStands z = true) :
    s.resetZoneRequest z = refuse s .stillActive := by
  rw [resetZoneRequest_of_zone hz, if_pos hf, if_pos hs]

theorem resetZoneRequest_of_not_fireStands (hz : ¬(z = 0 ∨ 24 < z))
    (hf : s.fireState z = .alarm ∨ s.fireState z = .alert) (hs : ¬s.fireStands z = true) :
    s.resetZoneRequest z = done (s.resetZone z) := by
  rw [resetZoneRequest_of_zone hz, if_pos hf, if_neg hs]

end

/-- Settles O26: the command executes the request in the state that took the SET, whose fire state, detectors and flags
are those of the state before, so each case of R50 answers with its own result. -/
theorem resetZoneReturnsItToNormal : Obligations.ResetZoneReturnsItToNormal := by
  intro s h z ht hr
  refine (exec_running (q := .resetZone z) ht hr (proper_of_ne nofun) (show 2 ≤ 48 by decide) rfl rfl).trans ?_
  rw [takenBy_eq_taken (q := .resetZone z) nofun, State.run]
  simp only [← fireStands_iff, ne_eq, ← not_or]
  congr 2
  by_cases h0 : h.srcStation = 0#5
  case neg =>
    rw [if_pos h0, if_pos h0]
    rfl
  rw [if_neg (not_not_intro h0), if_neg (not_not_intro h0)]
  by_cases hz : z.toNat = 0 ∨ 24 < z.toNat
  case pos =>
    rw [resetZoneRequest_of_not_zone hz, if_pos hz]
    rfl
  rw [if_neg hz]
  by_cases hf : s.fireState z.toNat = .alarm ∨ s.fireState z.toNat = .alert
  case neg =>
    rw [resetZoneRequest_of_no_fire (s := s.taken h) hz hf, if_pos hf]
    rfl
  rw [if_neg (not_not_intro hf)]
  by_cases hs : s.fireStands z.toNat = true
  case pos =>
    rw [resetZoneRequest_of_fireStands (s := s.taken h) hz hf hs, if_pos hs]
    rfl
  case neg =>
    rw [resetZoneRequest_of_not_fireStands (s := s.taken h) hz hf hs, if_neg hs, resetZone_eq]
    rfl

end Sys2Proof.Machine
end

section
/-! PROOFS. ACK-DOOR and RESET-OCCUPANCY (R71, R82): the change of a FORCED door to the settled state of its cleared
latch, and each request as a whole. -/

namespace Sys2Proof.Machine

section

variable {s : State} {h : Header} {q : Request}

/-- A request that station 0 alone may make and that is no OPEN-DOOR, taken in RUNNING, comes to a known state once it is
executed and answered: DENIED to any other source (R152, R164). -/
theorem exec_running_of_run {t : State} (ht : s.takes h) (hr : s.running = true) (hp : q.proper)
    (hl : q.payload.length ≤ 48) (hb : q.badForm = false) (hf : q.fromAny = false) (hq : ∀ d, q ≠ .openDoor d)
    (he : ((s.taken h).run h.srcStation q).1.answerSet h q ((s.taken h).run h.srcStation q).2 = t) :
    exec (q.command h) s =
      .next (State.beginPass
        (if h.srcStation ≠ 0#5 then (s.taken h).answer h q.answerCode .denied q.refusalExtra else t)) := by
  rw [exec_running ht hr hp hl hb hf, takenBy_eq_taken hq, he]

end

/-! ### A door that changes its state -/

section

variable {s : State} {d : Nat} {r : DoorRecord}

theorem putDoor_putDoor (s : State) (d : Nat) (r r' : DoorRecord) : (s.putDoor d r).putDoor d r' = s.putDoor d r' := by
  simp [State.putDoor, place]

theorem putDoor_doorRecord_self (hd : d ≤ 31) : (s.putDoor d r).doorRecord d = r := by
  rw [State.putDoor_doorRecord, if_pos ⟨rfl, Nat.lt_succ_of_le hd⟩]

/-- The passability of a door hangs on the state in its record alone (R78). -/
theorem passable_putDoor_of_state_eq (hd : d ≤ 31) (hr : r.state = (s.doorRecord d).state) :
    (s.putDoor d r).passable d = s.passable d := by
  unfold State.passable
  rw [putDoor_doorRecord_self hd, hr]
  rfl

/-- A door that takes a new state other than OPEN_AUTH writes its record and route-stale alone (R63, R69). -/
theorem enterDoor_of_ne {new : DoorState} (hs : (s.doorRecord d).state ≠ some new) (ho : new ≠ .openAuth) :
    s.enterDoor d new =
      (s.putDoor d ((s.doorRecord d).enter new s.clock (s.doorEntry d).heldB)).staleIfPassabilityChanged s d := by
  rw [State.enterDoor, if_neg hs]
  exact if_neg fun hc => ho hc.1

/-- Leaving FORCED for a state other than OPEN_AUTH keeps the pulse window and stops the held timer (R68, R69). -/
theorem enter_of_forced {new : DoorState} (hr : r.state = some .forced) (ho : new ≠ .openAuth) (clock heldB : Nat) :
    r.enter new clock heldB = { r with state := some new, heldTimer := none, heldReached := false } := by
  simp [DoorRecord.enter, hr, ho]

end

/-! ### ACK-DOOR (R71) -/

/-- The settled state of a FORCED door once its latch is cleared (R63, R71). -/
def DoorRecord.acknowledgedState (r : DoorRecord) : DoorState :=
  match r.commanded.getD r.desired with
  | .unlock => if r.desired = .unlock ∧ r.cause = .fire then .released else .free
  | .lock => if r.contact = some .open then .ajar else .secured
  | .hold => .held
  | .release => .shut

/-- The record of a FORCED door that is acknowledged. -/
def DoorRecord.acknowledged (r : DoorRecord) : DoorRecord :=
  { r with state := some r.acknowledgedState, latch := false, heldTimer := none, heldReached := false }

section

variable {s : State} {d : Nat} {r : DoorRecord}

theorem settledState_of_forced_unlatched (hr : r.state = some .forced) (hl : r.latch = false) :
    settledState r = r.acknowledgedState := by
  unfold settledState DoorRecord.acknowledgedState
  cases r.commanded.getD r.desired <;> simp [hr, hl]

theorem acknowledgedState_ne (r : DoorRecord) :
    r.acknowledgedState ≠ .forced ∧ r.acknowledgedState ≠ .openAuth := by
  unfold DoorRecord.acknowledgedState
  split
  case h_1 => split <;> exact ⟨nofun, nofun⟩
  case h_2 => split <;> exact ⟨nofun, nofun⟩
  case h_3 => exact ⟨nofun, nofun⟩
  case h_4 => exact ⟨nofun, nofun⟩

/-- A FORCED door without a latch leaves FORCED when it settles (R63). -/
theorem settle_of_forced_unlatched (hf : (s.doorRecord d).state = some .forced)
    (hl : (s.doorRecord d).latch = false) :
    s.settle d = (s.putDoor d (s.doorRecord d).acknowledged).staleIfPassabilityChanged s d := by
  obtain ⟨hne, ho⟩ := acknowledgedState_ne (s.doorRecord d)
  have hleave : (s.doorRecord d).state ≠ some (s.doorRecord d).acknowledgedState := by
    rw [hf]
    exact fun e => hne (Option.some.inj e).symm
  rw [State.settle, settledState_of_forced_unlatched hf hl, enterDoor_of_ne hleave ho, enter_of_forced hf ho,
    DoorRecord.acknowledged, ← hl]

/-- The effect of ACK-DOOR on a FORCED door: its record is the acknowledged one, and clearing the latch leaves the
passability to compare with as it was. -/
theorem settle_unlatched_of_forced (hd : d ≤ 31) (hf : (s.doorRecord d).state = some .forced) :
    (s.putDoor d { s.doorRecord d with latch := false }).settle d =
      (s.putDoor d (s.doorRecord d).acknowledged).staleIfPassabilityChanged s d := by
  have hrec : (s.putDoor d { s.doorRecord d with latch := false }).doorRecord d =
      { s.doorRecord d with latch := false } := putDoor_doorRecord_self hd
  have hpass : (s.putDoor d { s.doorRecord d with latch := false }).passable d = s.passable d :=
    passable_putDoor_of_state_eq hd rfl
  rw [settle_of_forced_unlatched (by rwa [hrec]) (by rw [hrec]), hrec, putDoor_putDoor,
    State.staleIfPassabilityChanged, hpass]
  rfl

theorem ackDoorRequest_of_not_forced
    (hc : 31 < d ∨ (s.doorEntry d).enabled = false ∨ (s.doorRecord d).state ≠ some .forced) :
    s.ackDoorRequest d = refuse s .badIndex := by
  refine if_neg fun ⟨hd, he, hf⟩ => ?_
  rcases hc with hd' | he' | hf'
  · exact absurd hd (Nat.not_le.mpr hd')
  · exact Bool.false_ne_true (he'.symm.trans he)
  · exact hf' hf

theorem ackDoorRequest_of_forced
    (hc : ¬(31 < d ∨ (s.doorEntry d).enabled = false ∨ (s.doorRecord d).state ≠ some .forced)) :
    s.ackDoorRequest d = done ((s.putDoor d (s.doorRecord d).acknowledged).staleIfPassabilityChanged s d) := by
  simp only [not_or, Nat.not_lt, Bool.not_eq_false, ne_eq, Classical.not_not] at hc
  rw [State.ackDoorRequest, if_pos hc, settle_unlatched_of_forced hc.1 hc.2.2]

end

/-! ### RESET-OCCUPANCY (R82) -/

section

variable {s : State} {z : Nat}

theorem isZone_and_counted_iff :
    (isZone z = true ∧ s.counted z = true) ↔ ¬(z = 0 ∨ 24 < z ∨ s.counted z = false) := by
  rw [← or_assoc, not_or, ← not_isZone_iff, Bool.not_eq_true', Bool.not_eq_false, Bool.not_eq_false]

theorem resetOccupancyRequest_of_not_counted (hc : z = 0 ∨ 24 < z ∨ s.counted z = false) :
    s.resetOccupancyRequest z = refuse s .badIndex :=
  if_neg fun hz => isZone_and_counted_iff.mp hz hc

theorem resetOccupancyRequest_of_counted (hc : ¬(z = 0 ∨ 24 < z ∨ s.counted z = false)) :
    s.resetOccupancyRequest z = done (s.putOccupancy z ⟨0, 0, 0⟩) :=
  if_pos (isZone_and_counted_iff.mpr hc)

end

/-- Settles O24: each request is executed in the state that took the SET, whose doors, entries and zones are those of the
state before, so each case of R71 and R82 answers with its own result. -/
theorem doorsAndOccupancyAreReset : Obligations.DoorsAndOccupancyAreReset := by
  refine ⟨fun s h d ht hr => ?ackDoor, fun s h z ht hr => ?resetOccupancy⟩
  case ackDoor =>
    refine exec_running_of_run (q := .ackDoor d) ht hr (proper_of_ne nofun) (show 2 ≤ 48 by decide) rfl rfl nofun ?_
    rw [State.run]
    by_cases hc : 31 < d.toNat ∨ (s.doorEntry d.toNat).enabled = false ∨ (s.doorRecord d.toNat).state ≠ some .forced
    · rw [ackDoorRequest_of_not_forced (s := s.taken h) hc, if_pos hc]
      rfl
    · rw [ackDoorRequest_of_forced (s := s.taken h) hc, if_neg hc]
      rfl
  case resetOccupancy =>
    refine exec_running_of_run (q := .resetOccupancy z) ht hr (proper_of_ne nofun) (show 2 ≤ 48 by decide) rfl rfl
      nofun ?_
    rw [State.run]
    by_cases hc : z.toNat = 0 ∨ 24 < z.toNat ∨ s.counted z.toNat = false
    · rw [resetOccupancyRequest_of_not_counted (s := s.taken h) hc, if_pos hc]
      rfl
    · rw [resetOccupancyRequest_of_counted (s := s.taken h) hc, if_neg hc]
      rfl

end Sys2Proof.Machine
end

section
/-! PROOFS. ARM, DISARM and ACK-INTRUSION (R86, R93): each arming check, and each request by the zone's guard state. -/

namespace Sys2Proof.Machine

section

variable {s : State} {z : Nat}

/-! ### The arming checks in order (R86) -/

theorem armingCheck_of_fire (hf : s.fireState z ≠ .normal) : s.armingCheck z = some (.fireHold, none) := if_pos hf

theorem armingCheck_of_occupied (hf : ¬s.fireState z ≠ .normal)
    (ho : s.counted z = true ∧ 0 < (s.occupancy z).count) : s.armingCheck z = some (.occupied, none) := by
  rw [State.armingCheck, if_neg hf, if_pos ho]

theorem armingCheck_of_firstOpenDoor {d : Nat} (hf : ¬s.fireState z ≠ .normal)
    (ho : ¬(s.counted z = true ∧ 0 < (s.occupancy z).count)) (hd : s.firstOpenDoor z = some d) :
    s.armingCheck z = some (.doorOpen, some d) := by
  rw [State.armingCheck, if_neg hf, if_neg ho, hd]

theorem armingCheck_of_clear (hf : ¬s.fireState z ≠ .normal)
    (ho : ¬(s.counted z = true ∧ 0 < (s.occupancy z).count)) (hd : s.firstOpenDoor z = none) :
    s.armingCheck z = none := by
  rw [State.armingCheck, if_neg hf, if_neg ho, hd]

/-! ### ARM, one equation for each guard state (R86) -/

theorem armRequest_of_not_zone (hz : z = 0 ∨ 24 < z) : s.armRequest z = refuse s .badIndex :=
  if_pos ((not_isZone_iff z).mpr hz)

theorem armRequest_of_arming (hz : ¬(z = 0 ∨ 24 < z))
    (hs : (s.guardRecord z).state = .exiting ∨ (s.guardRecord z).state = .armed) : s.armRequest z = done s := by
  rw [State.armRequest, if_neg (mt (not_isZone_iff z).mp hz)]
  rcases hs with hs | hs <;> rw [hs]

theorem armRequest_of_intruded (hz : ¬(z = 0 ∨ 24 < z))
    (hs : (s.guardRecord z).state = .entering ∨ (s.guardRecord z).state = .intrusion) :
    s.armRequest z = refuse s .stillActive := by
  rw [State.armRequest, if_neg (mt (not_isZone_iff z).mp hz)]
  rcases hs with hs | hs <;> rw [hs]

theorem armRequest_of_check_failed {r : Result} {door : Option Nat} (hz : ¬(z = 0 ∨ 24 < z))
    (hs : (s.guardRecord z).state = .disarmed) (hc : s.armingCheck z = some (r, door)) :
    s.armRequest z = (s, ⟨r, door.elim [] byte1⟩) := by
  rw [State.armRequest, if_neg (mt (not_isZone_iff z).mp hz), hs, hc]

theorem armRequest_of_checks_passed (hz : ¬(z = 0 ∨ 24 < z)) (hs : (s.guardRecord z).state = .disarmed)
    (hc : s.armingCheck z = none) : s.armRequest z = done (s.startArming z) := by
  rw [State.armRequest, if_neg (mt (not_isZone_iff z).mp hz), hs, hc]

theorem startArming_of_no_delay (hd : s.mgmt.wing.exitDelay = 0) : s.startArming z = s.armZone z := if_pos hd

theorem startArming_of_delay (hd : s.mgmt.wing.exitDelay ≠ 0) :
    s.startArming z =
      s.putGuard z { s.guardRecord z with state := .exiting, exitTimer := s.timer s.mgmt.wing.exitDelay } := if_neg hd

/-! ### DISARM and ACK-INTRUSION (R93) -/

/-- A zone that leaves a guarded state has its record cleared, and the state it left is told (R93). -/
theorem disarmZone_of_guarded {left : GuardState} (hs : (s.guardRecord z).state = left) (hl : left ≠ .disarmed)
    (cause : DisarmCause) :
    s.disarmZone z cause = (s.putGuard z .cold).notify (.zoneDisarmed z left cause) := by
  subst hs
  exact if_neg hl

theorem disarmRequest_of_not_zone (hz : z = 0 ∨ 24 < z) : s.disarmRequest z = refuse s .badIndex :=
  if_pos ((not_isZone_iff z).mpr hz)

theorem disarmRequest_of_disarmed (hz : ¬(z = 0 ∨ 24 < z)) (hs : (s.guardRecord z).state = .disarmed) :
    s.disarmRequest z = done s := by
  rw [State.disarmRequest, if_neg (mt (not_isZone_iff z).mp hz), hs]

theorem disarmRequest_of_intrusion (hz : ¬(z = 0 ∨ 24 < z)) (hs : (s.guardRecord z).state = .intrusion) :
    s.disarmRequest z = refuse s .stillActive := by
  rw [State.disarmRequest, if_neg (mt (not_isZone_iff z).mp hz), hs]

/-- DISARM in EXITING, ARMED and ENTERING. -/
theorem disarmRequest_of_guarded {left : GuardState} (hz : ¬(z = 0 ∨ 24 < z))
    (hs : (s.guardRecord z).state = left) (hl : left ≠ .disarmed) (hi : left ≠ .intrusion) :
    s.disarmRequest z = done ((s.putGuard z .cold).notify (.zoneDisarmed z left .disarm)) := by
  rw [State.disarmRequest, if_neg (mt (not_isZone_iff z).mp hz), disarmZone_of_guarded hs hl, hs]
  cases left with
  | disarmed => exact absurd rfl hl
  | intrusion => exact absurd rfl hi
  | exiting => rfl
  | armed => rfl
  | entering => rfl

theorem isZone_and_intrusion_iff :
    (isZone z = true ∧ (s.guardRecord z).state = .intrusion) ↔
      ¬(z = 0 ∨ 24 < z ∨ (s.guardRecord z).state ≠ .intrusion) := by
  rw [← or_assoc, not_or, ← not_isZone_iff, Bool.not_eq_true', Bool.not_eq_false, ne_eq, Classical.not_not]

theorem ackIntrusionRequest_of_no_intrusion (hc : z = 0 ∨ 24 < z ∨ (s.guardRecord z).state ≠ .intrusion) :
    s.ackIntrusionRequest z = refuse s .badIndex :=
  if_neg fun hz => isZone_and_intrusion_iff.mp hz hc

theorem ackIntrusionRequest_of_intrusion (hc : ¬(z = 0 ∨ 24 < z ∨ (s.guardRecord z).state ≠ .intrusion)) :
    s.ackIntrusionRequest z = done ((s.putGuard z .cold).notify (.zoneDisarmed z .intrusion .ackIntrusion)) := by
  have hz := isZone_and_intrusion_iff.mpr hc
  rw [State.ackIntrusionRequest, if_pos hz, disarmZone_of_guarded hz.2 nofun]

end

/-- Settles O23: each request is executed in the state that took the SET, whose guard records, entries and fire states
are those of the state before, so each guard state and each arming check answers with its own result. -/
theorem zonesAreArmedAndDisarmed : Obligations.ZonesAreArmedAndDisarmed := by
  intro s h z ht hr holds
  refine ⟨?arm, ?disarm, ?ackIntrusion⟩
  case arm =>
    have hopen : doorNumbers.find? holds = s.firstOpenDoor z.toNat := rfl
    refine exec_running_of_run (q := .arm z) ht hr (proper_of_ne nofun) (show 2 ≤ 48 by decide) rfl rfl nofun ?_
    rw [State.run]
    by_cases hz : z.toNat = 0 ∨ 24 < z.toNat
    · rw [armRequest_of_not_zone hz, if_pos hz]
      rfl
    rw [if_neg hz]
    dsimp only
    cases hs : (s.guardRecord z.toNat).state with
    | exiting =>
      rw [armRequest_of_arming (s := s.taken h) hz (.inl hs)]
      rfl
    | armed =>
      rw [armRequest_of_arming (s := s.taken h) hz (.inr hs)]
      rfl
    | entering =>
      rw [armRequest_of_intruded (s := s.taken h) hz (.inl hs)]
      rfl
    | intrusion =>
      rw [armRequest_of_intruded (s := s.taken h) hz (.inr hs)]
      rfl
    | disarmed =>
      by_cases hf : s.fireState z.toNat ≠ .normal
      · rw [armRequest_of_check_failed (s := s.taken h) hz hs (armingCheck_of_fire hf), if_pos hf]
        rfl
      by_cases ho : s.counted z.toNat = true ∧ 0 < (s.occupancy z.toNat).count
      · rw [armRequest_of_check_failed (s := s.taken h) hz hs (armingCheck_of_occupied hf ho), if_neg hf, if_pos ho]
        rfl
      rw [if_neg hf, if_neg ho, hopen]
      cases hd : s.firstOpenDoor z.toNat with
      | some d =>
        rw [armRequest_of_check_failed (s := s.taken h) hz hs (armingCheck_of_firstOpenDoor hf ho hd)]
        rfl
      | none =>
        rw [armRequest_of_checks_passed (s := s.taken h) hz hs (armingCheck_of_clear hf ho hd)]
        by_cases he : s.mgmt.wing.exitDelay = 0
        · rw [startArming_of_no_delay (s := s.taken h) he, if_pos he]
          rfl
        · rw [startArming_of_delay (s := s.taken h) he, if_neg he]
          rfl
  case disarm =>
    refine exec_running_of_run (q := .disarm z) ht hr (proper_of_ne nofun) (show 2 ≤ 48 by decide) rfl rfl nofun ?_
    rw [State.run]
    by_cases hz : z.toNat = 0 ∨ 24 < z.toNat
    · rw [disarmRequest_of_not_zone hz, if_pos hz]
      rfl
    rw [if_neg hz]
    cases hs : (s.guardRecord z.toNat).state with
    | disarmed =>
      rw [disarmRequest_of_disarmed (s := s.taken h) hz hs]
      rfl
    | intrusion =>
      rw [disarmRequest_of_intrusion (s := s.taken h) hz hs]
      rfl
    | exiting =>
      rw [disarmRequest_of_guarded (s := s.taken h) hz hs nofun nofun]
      rfl
    | armed =>
      rw [disarmRequest_of_guarded (s := s.taken h) hz hs nofun nofun]
      rfl
    | entering =>
      rw [disarmRequest_of_guarded (s := s.taken h) hz hs nofun nofun]
      rfl
  case ackIntrusion =>
    refine exec_running_of_run (q := .ackIntrusion z) ht hr (proper_of_ne nofun) (show 2 ≤ 48 by decide) rfl rfl nofun
      ?_
    rw [State.run]
    by_cases hc : z.toNat = 0 ∨ 24 < z.toNat ∨ (s.guardRecord z.toNat).state ≠ .intrusion
    · rw [ackIntrusionRequest_of_no_intrusion (s := s.taken h) hc, if_pos hc]
      rfl
    · rw [ackIntrusionRequest_of_intrusion (s := s.taken h) hc, if_neg hc]
      rfl

end Sys2Proof.Machine
end

section
/-! PROOFS. ASSIGN in UNNUMBERED (R163): the broadcast that a part without a number takes, judged by the checks of ASSIGN
alone, and each check. -/

namespace Sys2Proof.Machine

section

variable {s : State} {h : Header} {args : List Byte}

/-! ### Taking the broadcast (R149, R165) -/

/-- An UNNUMBERED part takes a broadcast ASSIGN and does not repeat it, whatever hops it has left (R149). -/
theorem arrive_unnumbered_of_isBroadcastAssign {f : Frame} {taker : State → State} (p : BackbonePort)
    (hu : s.mgmt.part = .unnumbered) (hb : isBroadcastAssign f = true) (hl : f.payload.length ≤ 48) :
    s.arrive p f taker = taker s := by
  have hc : ¬Config.maxPayload < f.payload.length := Nat.not_lt.mpr hl
  rw [State.arrive, if_neg hc, if_pos hu, if_pos hb]

theorem isBroadcastAssign_headerFrame (h31 : h.destStation = 31#5) :
    isBroadcastAssign (headerFrame h .set (Request.assign args).payload) = true := by
  simp [isBroadcastAssign, headerFrame, Request.payload, h31]

/-- In UNNUMBERED the checks of R164 are not made: a request goes to its own unit (R163). -/
theorem judge_unnumbered {q : Request} (hu : s.mgmt.part = .unnumbered) (source : BitVec 5) :
    s.judge source q = s.run source q := by
  rw [State.judge, if_pos hu]

/-- A SET that an UNNUMBERED part takes with room for an answer is executed in its reserved entry and answered (R152). -/
theorem takeSet_unnumbered {q : Request} (hu : s.mgmt.part = .unnumbered) (hr : s.answerRoom h.port = true) :
    s.takeSet h q =
      ((s.takenBy h q).run h.srcStation q).1.answerSet h q ((s.takenBy h q).run h.srcStation q).2 := by
  have hn : ¬(s.mgmt.part ≠ .unnumbered ∧ h.destStation = 31#5) := fun c => c.1 hu
  have ht : (s.takenBy h q).mgmt.part = .unnumbered := by rw [takenBy_mgmt, hu]
  rw [State.takeSet, if_neg hn, State.handleSet, if_neg (by simp [hr]), ← judge_unnumbered ht]
  rfl

/-- A broadcast ASSIGN in UNNUMBERED comes to a known state once it is executed and answered (R149, R152). -/
theorem exec_assign_unnumbered {t : State} {r : Result} (hl : 1 + args.length ≤ 48) (hu : s.mgmt.part = .unnumbered)
    (h31 : h.destStation = 31#5) (hr : s.answerRoom h.port = true)
    (ha : (s.taken h).assignRequest h.srcStation args = (t, ⟨r, []⟩)) :
    exec (.assign h args) s = .next (t.answer h 0x01#8 r []).beginPass := by
  have hp : (Request.assign args).payload.length ≤ 48 := show args.length + 1 ≤ 48 by omega
  calc exec (.assign h args) s
      = proceed (s.arriveSet h (.assign args)) := exec_command (q := .assign args) (proper_of_ne nofun)
    _ = proceed (s.takeSet h (.assign args)) := by
        rw [State.arriveSet,
          arrive_unnumbered_of_isBroadcastAssign h.port hu (isBroadcastAssign_headerFrame h31) hp]
    _ = .next (t.answer h 0x01#8 r []).beginPass := by
        rw [takeSet_unnumbered hu hr, takenBy_eq_taken (q := .assign args) nofun, State.run, ha]
        rfl

/-! ### The checks of ASSIGN in order (R163) -/

variable {source : BitVec 5} {n : Byte} {rest : List Byte}

theorem assignRequest_of_nil : s.assignRequest source [] = refuse s .badRequest := rfl

theorem assignRequest_of_source_ne (h0 : source ≠ 0#5) : s.assignRequest source (n :: rest) = refuse s .denied :=
  if_pos h0

theorem assignRequest_of_not_station (h0 : ¬source ≠ 0#5) (hn : n.toNat = 0 ∨ 30 < n.toNat) :
    s.assignRequest source (n :: rest) = refuse s .badValue := by
  rw [State.assignRequest, if_neg h0, if_pos hn]

theorem assignRequest_of_station (h0 : ¬source ≠ 0#5) (hn : ¬(n.toNat = 0 ∨ 30 < n.toNat)) :
    s.assignRequest source (n :: rest) =
      done { s with mgmt.part := .unconfigured, mgmt.station := some (BitVec.ofNat 5 n.toNat) } := by
  rw [State.assignRequest, if_neg h0, if_neg hn]

end

/-- Settles O8: a broadcast ASSIGN is executed by the Management Unit in the state that took it, so each check of R163
answers with its own result, and the number adopted is already the source of its ANSWER. -/
theorem assignNumbersThePart : Obligations.AssignNumbersThePart := by
  intro s h args hl hu _ h31 hr
  cases args with
  | nil => exact exec_assign_unnumbered hl hu h31 hr assignRequest_of_nil
  | cons n rest =>
    dsimp only
    by_cases h0 : h.srcStation ≠ 0#5
    · rw [if_pos h0]
      exact exec_assign_unnumbered hl hu h31 hr (assignRequest_of_source_ne h0)
    rw [if_neg h0]
    by_cases hn : n.toNat = 0 ∨ 30 < n.toNat
    · rw [if_pos hn]
      exact exec_assign_unnumbered hl hu h31 hr (assignRequest_of_not_station h0 hn)
    · rw [if_neg hn]
      exact exec_assign_unnumbered hl hu h31 hr (assignRequest_of_station h0 hn)

end Sys2Proof.Machine
end

section
/-! PROOFS. READ-TABLE (R169): a request that any station may make before RUNNING too, and each of its checks. -/

namespace Sys2Proof.Machine

section

variable {s : State} {h : Header} {q : Request}

/-! ### Requests open to every station in every numbered part (R164) -/

theorem refusal_eq_none_of_fromAny (hb : q.badForm = false) (hf : q.fromAny = true) (hr : q.beforeRunning = true)
    (source : BitVec 5) : s.refusal source q = none := by
  simp [State.refusal, hb, hf, hr]

/-- A request that any station may make in UNCONFIGURED and RUNNING comes to a known state once it is executed and
answered (R152, R164). -/
theorem exec_fromAny_of_run {t : State} (ht : s.takes h) (hp : q.proper) (hl : q.payload.length ≤ 48)
    (hb : q.badForm = false) (hf : q.fromAny = true) (hr : q.beforeRunning = true) (hq : ∀ d, q ≠ .openDoor d)
    (he : ((s.taken h).run h.srcStation q).1.answerSet h q ((s.taken h).run h.srcStation q).2 = t) :
    exec (q.command h) s = .next t.beginPass := by
  rw [exec_command hp, arriveSet_takes ht hl, judge_takes ht.1, refusal_eq_none_of_fromAny hb hf hr,
    takenBy_eq_taken hq, he]
  rfl

/-! ### The checks of READ-TABLE in order (R169) -/

variable {code start count : Nat} {tb : Table}

/-- A range of one entry or more that starts past the table's end also runs past it, so of the check that the starting
index lies in the table only its lower end is left. -/
theorem not_has_or_past_iff (hc : ¬(count = 0 ∨ 16 < count)) :
    ((!tb.has start) = true ∨ tb.last < start + count - 1) ↔ (start < tb.first ∨ tb.last < start + count - 1) := by
  simp only [Table.has, Bool.not_eq_true', Bool.and_eq_false_iff, decide_eq_false_iff_not, Nat.not_le]
  omega

theorem readTableRequest_of_no_table (hk : Table.ofCode code = none) :
    s.readTableRequest code start count = refuse s .badRequest := by
  rw [State.readTableRequest, hk]

theorem readTableRequest_of_bad_count (hk : Table.ofCode code = some tb) (hc : count = 0 ∨ 16 < count) :
    s.readTableRequest code start count = refuse s .badValue := by
  rw [State.readTableRequest, hk]
  exact if_pos hc

theorem readTableRequest_of_bad_range (hk : Table.ofCode code = some tb) (hc : ¬(count = 0 ∨ 16 < count))
    (hi : start < tb.first ∨ tb.last < start + count - 1) :
    s.readTableRequest code start count = refuse s .badIndex := by
  rw [State.readTableRequest, hk]
  exact (if_neg hc).trans (if_pos ((not_has_or_past_iff hc).mpr hi))

theorem readTableRequest_of_range (hk : Table.ofCode code = some tb) (hc : ¬(count = 0 ∨ 16 < count))
    (hi : ¬(start < tb.first ∨ tb.last < start + count - 1)) :
    s.readTableRequest code start count =
      (s, ⟨.done, byte1 (min count (45 / tb.readSize))
        ++ (List.range (min count (45 / tb.readSize))).flatMap fun i => s.entryBytes tb (start + i)⟩) := by
  rw [State.readTableRequest, hk]
  exact (if_neg hc).trans (if_neg (mt (not_has_or_past_iff hc).mp hi))

end

/-- Settles O16: the request is executed in the state that took the SET, whose entries are those of the state before, so
each check of R169 answers with its own result and a range in the table with its entries. -/
theorem readTableAnswersWholeEntries : Obligations.ReadTableAnswersWholeEntries := by
  intro s h code start count ht
  refine exec_fromAny_of_run (q := .readTable code start count) ht (proper_of_ne nofun) (show 4 ≤ 48 by decide) rfl rfl
    rfl nofun ?_
  rw [State.run]
  cases hk : Table.ofCode code.toNat with
  | none =>
    rw [readTableRequest_of_no_table hk]
    rfl
  | some tb =>
    dsimp only
    by_cases hc : count.toNat = 0 ∨ 16 < count.toNat
    · rw [readTableRequest_of_bad_count hk hc, if_pos hc]
      rfl
    rw [if_neg hc]
    by_cases hi : start.toNat < tb.first ∨ tb.last < start.toNat + count.toNat - 1
    · rw [readTableRequest_of_bad_range hk hc hi, if_pos hi]
      rfl
    · rw [readTableRequest_of_range hk hc hi, if_neg hi]
      rfl

end Sys2Proof.Machine
end
